-- ==== Sys2Proof/Word.lean ====
section
/-! DEFINITION. The bytes of the command port and of the serial memory, and their plainest arithmetic
(00_scope.md, Frames: multi-byte fields are sent most significant byte first). -/
namespace Sys2Proof

/-- One byte of a frame, of a reply, or of the serial memory. -/
abbrev Byte := BitVec 8

/-- A two-byte field of a frame. -/
abbrev Half := BitVec 16

/-- A three-byte flag word or mask word (R181). -/
abbrev FlagWord := BitVec 24

/-- The two-byte field sent as `hi`, then `lo`. -/
def half (hi lo : Byte) : Half := hi ++ lo

/-- The first byte sent of a two-byte field. -/
def hiByte (h : Half) : Byte := h.extractLsb' 8 8

/-- The second byte sent of a two-byte field. -/
def loByte (h : Half) : Byte := h.extractLsb' 0 8

/-- The three-byte word sent as `a`, `b`, `c`. -/
def word3 (a b c : Byte) : FlagWord := a ++ b ++ c

end Sys2Proof
end

