-- ==== Sys2Proof/Syntax.lean ====
section
/-! DEFINITION. The commands of the P380: one constructor of `Instr` for each row of spec/opcode_table.json, with the
types of their operands. A request carries its parameter bytes at the widths of the request table of
10_the_command_port_and_attention.md, not yet decoded; a machine event carries what the part reads at that moment. -/
namespace Sys2Proof

/-- Lane 0–79; lane number = 10 × row + column (00_scope.md, Indexes). -/
abbrev LaneNo := Fin 80
/-- Tube 0–5. -/
abbrev TubeNo := Fin 6
/-- Coin type 0–15. -/
abbrev CoinTypeNo := Fin 16
/-- Selection window 0–7. -/
abbrev WindowNo := Fin 8

/-- The filtered level of HOME_SENSE (R28). -/
inductive HomeLevel where
  | opened
  | closed
deriving DecidableEq, Repr

/-- The two level sensors of a tube (R46). -/
inductive TubeSensor where
  | low
  | full
deriving DecidableEq, Repr

/-- The two detect contacts of the cassette (R49). -/
inductive Contact where
  | first
  | second
deriving DecidableEq, Repr

/-- The two thermistor channels (R140). -/
inductive ChannelName where
  | cabinet
  | coil
deriving DecidableEq, Repr

/-- What a thermistor channel yields in one second (R140): an open circuit, a short circuit, or a temperature in tenths
of a degree, in or out of the valid range. -/
inductive Reading where
  | openCircuit
  | shortCircuit
  | temperature (tenths : Int)
deriving DecidableEq, Repr

/-- The two comparators of the supply monitor (R166). -/
inductive SupplyKind where
  | under
  | over
deriving DecidableEq, Repr

/-- The door switch (R169). -/
inductive DoorState where
  | opened
  | closed
deriving DecidableEq, Repr

/-- What the part reads as a start completes: the comparator levels (R166), the detect contacts and code pins, and the
level sensors of the six tubes (R43). A sensor's bit is true when it is COVERED, a contact's when it is closed. -/
structure StartInputs where
  underAsserted : Bool
  overAsserted : Bool
  contactFirst : Bool
  contactSecond : Bool
  codePins : Fin 4
  lowCovered : Vector Bool 6
  fullCovered : Vector Bool 6
deriving DecidableEq, Repr

/-- The parameters of SET_LANE after the lane number (R16); the image gives a fitted lane the same ones, with its
alternate (R192). -/
structure LaneParams where
  price : Half
  stockMode : Byte
  capacity : Byte
  laneClass : Byte
  motorKind : Byte
  runTime : Half
  demand : Byte
  duty : Half
deriving DecidableEq, Repr

/-- The parameters of SET_WINDOW after the window number (R12). -/
structure WindowParams where
  firstCode : Half
  lastCode : Half
  baseLane : Byte
  enabled : Byte
deriving DecidableEq, Repr

/-- The parameters of SET_COIN_TYPE after the type (R59). -/
structure CoinParams where
  value : Half
  destination : Byte
  inhibit : Byte
  changeDependent : Byte
deriving DecidableEq, Repr

/-- The parameters of SET_TUBE after the tube number (R54). -/
structure TubeParams where
  value : Half
  capacity : Byte
  lowMark : Byte
  reserve : Byte
deriving DecidableEq, Repr

/-- The parameters of SET_MACHINE (R186). -/
structure MachineParams where
  tStart : Half
  tCycle : Half
  tDrop : Half
  retries : Byte
  dropSensing : Byte
  budgetWait : Half
  transitLimit : Half
  payoutCoinLimit : Half
  vendMode : Byte
  creditCeiling : Half
  sessionTimeout : Byte
  expectedCode : Byte
deriving DecidableEq, Repr

/-- The parameters of SET_COOLING (R143). -/
structure CoolingParams where
  setpoint : Half
  differential : Byte
  setback : Byte
  holdLimit : Byte
  holdDelay : Byte
  minimumOff : Half
  minimumRun : Half
  startInterval : Byte
  defrostInterval : Byte
  termination : Byte
  maximumDefrost : Byte
  drip : Byte
  fallbackRun : Byte
  fallbackOff : Byte
  enabled : Byte
deriving DecidableEq, Repr

/-- The parameters of SET_BUDGET (R164). -/
structure BudgetParams where
  budget : Byte
  payoutDemand : Byte
  startDemand : Byte
  runDemand : Byte
  defrostDemand : Byte
  fair : Byte
  releaseMode : Byte
deriving DecidableEq, Repr

/-- The parameters of SET_WAKE_SOURCES (R171). -/
structure WakeParams where
  coin : Byte
  door : Byte
  cashless : Byte
deriving DecidableEq, Repr

/-- The parameters of SET_PROBES (R56). -/
structure ProbeParams where
  amount0 : Half
  amount1 : Half
  amount2 : Half
  amount3 : Half
deriving DecidableEq, Repr

/-- The commands, in the order of spec/opcode_table.json. -/
inductive Instr where
  /-- NOP frame with `extra` ignored bytes after its code (R177). -/
  | nop (extra : Nat)
  /-- A frame of the whole bytes `bytes` and `partBits` bits of a part byte, judged a FRAME_ERROR (R177). -/
  | frameError (bytes : List Byte) (partBits : Nat)
  /-- A frame whose code names no request, with `extra` bytes after it (R177). -/
  | unknownRequest (code : Byte) (extra : Nat)
  | linkReset
  | readAttention
  | ackAttention (word : FlagWord)
  | setAttentionMask (word : FlagWord)
  | lookup (code : Half)
  | readLane (lane : Byte)
  | setLane (lane : Byte) (p : LaneParams)
  | setLink (lane alternate : Byte)
  | restock (lane count : Byte)
  | retireLane (lane : Byte)
  | clearLaneFault (lane : Byte)
  | setWindow (window : Byte) (p : WindowParams)
  | readWindow (window : Byte)
  | vend (code : Half)
  | testVend (lane : Byte)
  | homeLane (lane : Byte)
  | readVendResult
  | grantCashless (amount : Half)
  | cancel
  | readSession
  | setAccept (mode : Byte)
  | setCoinType (type : Byte) (p : CoinParams)
  | setTube (tube : Byte) (p : TubeParams)
  | setTubeCount (tube count : Byte)
  | clearTubeFault (tube : Byte)
  | setProbes (p : ProbeParams)
  | readTubes
  | dispense (tube coins : Byte)
  | readPayoutResult
  | clearCashbox
  | setCooling (p : CoolingParams)
  | readCooling
  | releaseHold
  | startDefrost
  | setBudget (p : BudgetParams)
  | readBudget
  | enterQuiet
  | wake
  | setWakeSources (p : WakeParams)
  | readSupply (clear : Byte)
  | setMachine (p : MachineParams)
  | storeImage
  /-- The image store ends: `none` when every byte was acknowledged, `some n` when the memory failed to acknowledge
  the byte after the first `n` (R194). -/
  | storeEnd (failedAfter : Option Nat)
  /-- The validator presents a coin: `none` is UNKNOWN (R62). -/
  | coinPresented (type : Option CoinTypeNo)
  | acceptSensorPulse
  | transitLimitExpiry
  /-- The named sensor takes a new level (R46). -/
  | levelSensorTransition (tube : TubeNo) (sensor : TubeSensor) (covered : Bool)
  /-- The named contact takes a new level; `codePins` is what the code pins show at that moment (R49). -/
  | cassetteContactChange (contact : Contact) (closed : Bool) (codePins : Fin 4)
  | payoutBudgetWaitExpiry
  | payoutSensorPulse
  | payoutCoinLimitExpiry
  | sessionTimeoutExpiry
  | startLevelTaken (level : HomeLevel)
  | homeLevelChange (level : HomeLevel)
  /-- The drive current is now `milliamps` (R33). -/
  | driveCurrentChange (milliamps : Nat)
  | stallDebounceExpiry
  /-- The 100 ms point of a drive, with the current measured then (R34). -/
  | openCheck (milliamps : Nat)
  | vendBudgetWaitExpiry
  | tStartExpiry
  | tCycleExpiry
  | runTimeExpiry
  | dropSeen
  | dropWindowClose
  | thermistorSample (channel : ChannelName) (reading : Reading)
  | fallbackPhaseEnd
  | startIntervalEnd
  | minimumRunExpiry
  | minimumOffEnd
  | accumulatedRunCount
  | maximumDefrostReached
  | dripEnd
  | holdDelayReached
  /-- The comparator `kind` has seen the rail at `railMillivolts`, beyond its assert threshold (R166). -/
  | supplyEvent (kind : SupplyKind) (railMillivolts : Nat)
  /-- The comparator `kind` has seen the rail at `railMillivolts`, beyond its clear threshold (R166). -/
  | supplyCleared (kind : SupplyKind) (railMillivolts : Nat)
  | doorChange (level : DoorState)
  | cellSample (millivolts : Nat)
  | powerFailWarning (cellMillivolts : Nat)
  | rstNAssertion
  /-- A start with the marker VALID (R190): whether the memory clock line is pulled high, the first cell sample, and
  what the part reads as the start completes. -/
  | warmStart (memoryFitted : Bool) (cellMillivolts : Nat) (inputs : StartInputs)
  /-- A start with the marker INVALID, or with the store lost while power was off (R188, R191). With a fitted memory
  the start completes at `imageLoad`. -/
  | coldStart (memoryFitted : Bool) (cellMillivolts : Nat) (inputs : StartInputs)
  /-- The image has been read: whether the memory acknowledged every byte (R193), and what the part reads as the
  start completes. -/
  | imageLoad (acknowledged : Bool) (inputs : StartInputs)
  | lrstNRelease
deriving DecidableEq, Repr

end Sys2Proof
end

