-- ==== Sys2Proof/Machine/State.lean ====
section
/-! DEFINITION. Everything the P380 holds, as plain data, block by block (00_scope.md, Overview of the part), and its
value after reset. INVENTORY.md lists each field with its rule, width and reset value. -/
namespace Sys2Proof.Machine

/-- A running timer: the time since its start and its limit, in milliseconds. A stopped timer is `none` in its field.
`overtaken` is the model's own (log entry 31): the timer replaces one that was due, and no time has passed since, so an
expiry that arrived together with the event that replaced it finds nothing (R35, R86, R113). -/
structure Timer where
  elapsed : Nat
  limit : Nat
  overtaken : Bool := false
deriving DecidableEq, Repr

/-! ## Lane Table (01_the_lane_table.md) -/

/-- Fault causes of a FAULTED lane (table before R1). -/
inductive FaultCause where
  | stall
  | openCircuit
  | noStart
  | jam
deriving DecidableEq, Repr

/-- Position of a HOMED lane (R1). -/
inductive Position where
  | home
  | offHome
deriving DecidableEq, Repr

/-- Class of a lane. -/
inductive LaneClass where
  | ambient
  | chilled
deriving DecidableEq, Repr

/-- Stock mode with the fields it holds (R1). -/
inductive Stock where
  | counted (stock capacity : Nat)
  | uncounted (soldOut : Bool)
deriving DecidableEq, Repr

/-- Motor kind with the field it holds: a HOMED lane its position, a TIMED lane its run time in ms. A TIMED lane's
position is HOME at all times (R1). -/
inductive Motor where
  | homed (position : Position)
  | timed (runTime : Nat)
deriving DecidableEq, Repr

/-- The record of a fitted lane: ACTIVE when `fault` is none, FAULTED with that cause otherwise (R1). -/
structure FittedLane where
  fault : Option FaultCause
  price : Nat
  stock : Stock
  laneClass : LaneClass
  motor : Motor
  alternate : Option LaneNo
  demand : Nat
  duty : Nat
deriving DecidableEq, Repr

/-- A lane record: none is UNFITTED, which holds no other field (R1). -/
abbrev LaneRecord := Option FittedLane

/-- A selection window (R11). -/
structure Window where
  firstCode : Nat
  lastCode : Nat
  baseLane : LaneNo
  enabled : Bool
deriving DecidableEq, Repr

/-- The Lane Table. -/
structure LaneTable where
  records : Vector LaneRecord 80
  windows : Vector Window 8
  faultedCount : Nat
deriving DecidableEq, Repr

/-! ## Drive Matrix (02_the_spiral_drive_matrix.md) -/

/-- How a drive is to end in the ordinary way (R26). -/
inductive StopCondition where
  | atHome
  | commanded
deriving DecidableEq, Repr

/-- Current state of a drive (R33, R34). -/
inductive CurrentState where
  | normal
  | stall
  | openCircuit
deriving DecidableEq, Repr

/-- The drive context while a lane is driven (table before R24). The stall threshold is in milliamperes. `homeLevel`
is none until the start level is taken (R28). Two fields are the model's own (log entry 31). The drive began in the event
that ended another, no time has passed since, and the other could still have ended by its closed edge (`edgeOver`) or by
its open check (`checkOver`): such an end that arrived together with the one taken is not seen, or not made (R35). -/
structure DriveContext where
  lane : LaneNo
  duty : Nat
  stallThreshold : Nat
  stopCondition : StopCondition
  current : CurrentState
  homeLevel : Option HomeLevel
  homeOpened : Bool
  openCheckPassed : Bool
  stallDebounce : Option Timer
  edgeOver : Bool := false
  checkOver : Bool := false
deriving DecidableEq, Repr

/-- The Drive Matrix: the drive context (R24) and the retained driving marker (R39). -/
structure DriveMatrix where
  context : Option DriveContext
  marker : Option LaneNo
deriving DecidableEq, Repr

/-! ## Change tubes and the cassette (03_change_tubes_and_the_cassette.md) -/

/-- Presence of a tube (R41). -/
inductive Presence where
  | absent
  | active
  | fault
deriving DecidableEq, Repr

/-- A tube record (table before R41); a value of 0 means not configured. The sensor bits are true when COVERED. -/
structure Tube where
  value : Nat
  capacity : Nat
  lowMark : Nat
  reserve : Nat
  presence : Presence
  count : Nat
  verified : Bool
  committed : Nat
  fullCovered : Bool
  lowCovered : Bool
deriving DecidableEq, Repr

/-- Cassette state (R49). -/
inductive CassetteState where
  | seated
  | mismatch
  | partlySeated
  | removed
deriving DecidableEq, Repr

/-- The Tube Table. A contact's bit is true when it is closed. -/
structure TubeTable where
  tubes : Vector Tube 6
  contactFirst : Bool
  contactSecond : Bool
  cassette : CassetteState
  cassetteCode : Nat
  probes : Vector Nat 4
  exactChange : Bool
deriving DecidableEq, Repr

/-! ## Coin Router (04_coin_acceptance_and_routing.md) -/

/-- Where a coin goes: a tube or the cashbox (R58, R64). -/
inductive Route where
  | tube (t : TubeNo)
  | cashbox
deriving DecidableEq, Repr

/-- A Coin Type Table entry (R58); a value of 0 means not configured. -/
structure CoinEntry where
  value : Nat
  destination : Route
  inhibit : Bool
  changeDependent : Bool
deriving DecidableEq, Repr

/-- The coin in transit (R65); its timer is the transit limit in force at acceptance. -/
structure Transit where
  type : CoinTypeNo
  value : Nat
  route : Route
  timer : Timer
deriving DecidableEq, Repr

/-- Reasons for returning a coin, in the order of R62. The first six are the closing conditions of R60. -/
inductive RejectReason where
  | sessionBusy
  | quiet
  | doorOpen
  | acceptOff
  | inTransit
  | supply
  | unknownType
  | notConfigured
  | inhibited
  | ceiling
  | exactChange
deriving DecidableEq, Repr

/-- The last-reject record (R63); a type of none is UNKNOWN. -/
structure Reject where
  reason : RejectReason
  type : Option CoinTypeNo
deriving DecidableEq, Repr

/-- The Coin Router. -/
structure CoinRouter where
  table : Vector CoinEntry 16
  acceptance : Bool
  slot : Option Transit
  diverter : Route
  lastReject : Option Reject
  cashbox : Nat
deriving DecidableEq, Repr

/-! ## Payout Engine (05_change_planning_and_payout.md) -/

/-- Source of a payout order (before R80). -/
inductive PayoutSource where
  | session
  | dispense
deriving DecidableEq, Repr

/-- State of a payout order. -/
inductive OrderState where
  | waitGrant
  | paying
  | ended
deriving DecidableEq, Repr

/-- Cause of an order's end (R93). -/
inductive PayoutCause where
  | complete
  | short
  | budget
  | supply
  | cassette
deriving DecidableEq, Repr

/-- The coin pulsed and not yet confirmed (R84): its tube, whether it is the retry pulse, and the payout coin limit in
force. `afterFault` is the model's own (log entry 31): the pulse follows a tube fault whose limit was due, and no time
has passed since, so a sensor pulse that arrived together with that expiry came before it (R86). -/
structure Awaited where
  tube : TubeNo
  retry : Bool
  timer : Timer
  afterFault : Bool := false
deriving DecidableEq, Repr

/-- The payout order (table before R80). `dispensed` is the tube and coins asked of a DISPENSE order. The planned
shortfall is computed from the other fields. -/
structure Order where
  source : PayoutSource
  asked : Nat
  dispensed : Option (TubeNo × Nat)
  plan : Vector Nat 6
  reserveDipped : Bool
  paidPerTube : Vector Nat 6
  paid : Nat
  state : OrderState
  awaited : Option Awaited
  replanDue : Bool
  budgetWait : Option Timer
deriving DecidableEq, Repr

/-- The Payout Record (R93); the record of source NONE is `none` in its field. -/
structure PayoutRecord where
  source : PayoutSource
  asked : Nat
  paid : Nat
  shortfall : Nat
  perTube : Vector Nat 6
  cause : PayoutCause
deriving DecidableEq, Repr

/-- The Payout Engine. `held` is the session payout waiting behind a DISPENSE order (R80); `solenoids` holds
for each tube the time of the 30 ms pulse that its solenoid is being fired for, if it is (R84). -/
structure PayoutEngine where
  order : Option Order
  held : Bool
  record : Option PayoutRecord
  solenoids : Vector (Option Timer) 6
deriving DecidableEq, Repr

/-! ## Session Controller (06_credit_and_the_customer_session.md) -/

/-- Session states (R95). -/
inductive SessionState where
  | idle
  | opened
  | vending
  | paying
deriving DecidableEq, Repr

/-- The Session Record (R96). -/
structure SessionRecord where
  accepted : Nat
  coinSales : Nat
  paid : Nat
  cashlessGranted : Nat
  cashlessUsed : Nat
  cashlessReturned : Nat
deriving DecidableEq, Repr

/-- The Credit Record (before R95) and the Session Record. -/
structure Session where
  coin : Nat
  cashless : Nat
  escrowCoin : Nat
  escrowCashless : Nat
  state : SessionState
  cancelPending : Bool
  timer : Option Timer
  record : SessionRecord
deriving DecidableEq, Repr

/-- Vend modes (R101). -/
inductive VendMode where
  | single
  | multi
deriving DecidableEq, Repr

/-- The settings of SET_MACHINE (R186). -/
structure MachineSettings where
  tStart : Nat
  tCycle : Nat
  tDrop : Nat
  retries : Nat
  dropSensing : Bool
  budgetWait : Nat
  transitLimit : Nat
  payoutCoinLimit : Nat
  vendMode : VendMode
  creditCeiling : Nat
  sessionTimeout : Nat
  expectedCode : Nat
deriving DecidableEq, Repr

/-! ## Vend Engine (07_the_vend.md) -/

/-- Operation kinds (before R115). -/
inductive OpKind where
  | vend
  | testVend
  | homeLane
deriving DecidableEq, Repr

/-- Phases of an operation (before R115). -/
inductive Phase where
  | waitGrant
  | homing
  | turning
  | afterStop
deriving DecidableEq, Repr

/-- The drop window (R127): `opened none` is open with its closing time not yet fixed, `opened (some t)` is open and
closes when `t` runs out. -/
inductive DropWindow where
  | closed
  | opened (closing : Option Timer)
deriving DecidableEq, Repr

/-- Why the current lane is being left (R132). -/
inductive LeaveCause where
  | empty
  | drive
  | held
deriving DecidableEq, Repr

/-- The limit whose expiry sent a switch-off command (R125). -/
inductive LimitCause where
  | noStart
  | jam
deriving DecidableEq, Repr

/-- The vend settings copied at acceptance (R116). -/
structure VendSettings where
  tStart : Nat
  tCycle : Nat
  tDrop : Nat
  retries : Nat
  dropSensing : Bool
  budgetWait : Nat
deriving DecidableEq, Repr

/-- The vend context (table before R115). Two fields are the model's own. `fromIdle`: the operation was accepted in IDLE
(R103, R107; log entry 22). `afterClose`: the last window's close was due and no time has passed since, so a drop that
arrived together with it is ignored (R128; log entry 31). -/
structure VendContext where
  kind : OpKind
  code : Option Nat
  chosen : LaneNo
  price : Nat
  chain : List LaneNo
  current : LaneNo
  phase : Phase
  retriesLeft : Nat
  motionBegun : Bool
  driveBounceUsed : Bool
  window : DropWindow
  dropSeen : Option LaneNo
  leaveCause : Option LeaveCause
  limitCause : Option LimitCause
  supplyAborted : Bool
  inForce : VendSettings
  turnsMade : Nat
  availBounces : Nat
  driveBounces : Nat
  fromIdle : Bool
  budgetWait : Option Timer
  tStart : Option Timer
  tCycle : Option Timer
  runTime : Option Timer
  afterClose : Bool := false
deriving DecidableEq, Repr

/-- Outcomes of an operation (R134). -/
inductive VendOutcome where
  | vended
  | failed
  | aborted
deriving DecidableEq, Repr

/-- Reasons of an outcome (R134). -/
inductive VendReason where
  | empty
  | drive
  | budget
  | supply
  | held
deriving DecidableEq, Repr

/-- The Vend Result Record (R134); the record of kind NONE is `none` in its field. -/
structure VendResult where
  kind : OpKind
  code : Option Nat
  chosen : LaneNo
  vended : Option LaneNo
  outcome : VendOutcome
  reason : Option VendReason
  price : Nat
  turnsMade : Nat
  availBounces : Nat
  driveBounces : Nat
deriving DecidableEq, Repr

/-- The Vend Engine. -/
structure VendEngine where
  context : Option VendContext
  result : Option VendResult
deriving DecidableEq, Repr

/-! ## Cooling Controller (08_cabinet_cooling.md) -/

/-- Channel status (R141). -/
inductive ChannelStatus where
  | ok
  | fault
deriving DecidableEq, Repr

/-- Kind of a fault indication (R140). -/
inductive FaultKind where
  | openCircuit
  | shortCircuit
deriving DecidableEq, Repr

/-- The last reading of a channel (R140): a valid sample or a fault indication. -/
inductive LastSample where
  | valid (tenths : Int)
  | fault (kind : FaultKind)
deriving DecidableEq, Repr

/-- A sensor channel (table before R140); a filtered temperature of none is a channel that is not seeded. -/
structure Channel where
  status : ChannelStatus
  filtered : Option Int
  lastSample : Option LastSample
  faultRun : Nat
  validRun : Nat
  lastFault : Option FaultKind
deriving DecidableEq, Repr

/-- Phases of the fallback cycle (R145). -/
inductive FallbackPhase where
  | on
  | off
deriving DecidableEq, Repr

/-- Compressor states (before R146). -/
inductive CompressorState where
  | offResting
  | offIdle
  | waitBudget
  | starting
  | running
deriving DecidableEq, Repr

/-- Defrost states (before R151). -/
inductive DefrostState where
  | none
  | pending
  | paused
  | heating
  | dripping
deriving DecidableEq, Repr

/-- Hold states (R155). -/
inductive HoldState where
  | clear
  | timing
  | latched
deriving DecidableEq, Repr

/-- The cooling settings (R143), in the units of the table there: tenths of a degree, seconds, minutes, hours. -/
structure CoolingSettings where
  setpoint : Int
  differential : Nat
  setback : Nat
  holdLimit : Nat
  holdDelay : Nat
  minimumOff : Nat
  minimumRun : Nat
  startInterval : Nat
  defrostInterval : Nat
  termination : Nat
  maximumDefrost : Nat
  drip : Nat
  fallbackRun : Nat
  fallbackOff : Nat
  enabled : Bool
deriving DecidableEq, Repr

/-- The Cooling Controller. `accumulatedRun` is in seconds; `runPhase` is the model's own count of the milliseconds of
the running second (log entry 30); `defrostTimer` and `holdTimer` are in milliseconds. A minimum run of none has
elapsed or does not run. -/
structure Cooling where
  cabinet : Channel
  coil : Channel
  call : Bool
  fallback : Option (FallbackPhase × Timer)
  compressor : CompressorState
  minimumOff : Option Timer
  startInterval : Option Timer
  minimumRun : Option Timer
  yieldHeld : Bool
  accumulatedRun : Nat
  runPhase : Nat
  defrost : DefrostState
  defrostTimer : Nat
  drip : Option Timer
  hold : HoldState
  holdTimer : Nat
  settings : CoolingSettings
deriving DecidableEq, Repr

/-! ## Budget Arbiter (09_supply_budget_and_the_quiet_state.md) -/

/-- The four consumers, in priority order (R161). -/
inductive Consumer where
  | payout
  | vend
  | compressor
  | defrost
deriving DecidableEq, Repr

/-- An entry of the Grant Table (R159): its recorded demand, and the amount held when it is GRANTED. -/
inductive Entry where
  | idle
  | waiting (demand : Nat)
  | granted (demand amount : Nat)
deriving DecidableEq, Repr

/-- The Grant Table; `compressorRun` is the run demand recorded with the COMPRESSOR request. -/
structure GrantTable where
  payout : Entry
  vend : Entry
  compressor : Entry
  defrost : Entry
  compressorRun : Nat
deriving DecidableEq, Repr

/-- Release modes (R163). -/
inductive ReleaseMode where
  | rwd
  | ror
deriving DecidableEq, Repr

/-- The Budget Arbiter: the Grant Table, the effective budget B, the pending lowered budget, and the settings of
SET_BUDGET (R164). -/
structure Arbiter where
  table : GrantTable
  budget : Nat
  pendingBudget : Option Nat
  payoutDemand : Nat
  startDemand : Nat
  runDemand : Nat
  defrostDemand : Nat
  fair : Bool
  releaseMode : ReleaseMode
deriving DecidableEq, Repr

/-! ## Supply and Power (09, 11) -/

/-- Cell states (R172). -/
inductive CellState where
  | good
  | weak
  | dead
deriving DecidableEq, Repr

/-- Whether the part takes events (R189, R191): it runs, it is inert until its next start, or it is inert in step 3 of
a cold start, reading the image. -/
inductive PowerState where
  | running
  | inert
  | loading
deriving DecidableEq, Repr

/-- Start kinds (R190, R191). -/
inductive StartKind where
  | warm
  | cold
deriving DecidableEq, Repr

/-- The Supply and Power block. `markerValid` is the validity marker (R188). -/
structure Supply where
  underLevel : Bool
  overLevel : Bool
  underSeen : Bool
  overSeen : Bool
  door : DoorState
  quiet : Bool
  wakeCoin : Bool
  wakeDoor : Bool
  wakeCashless : Bool
  cell : CellState
  power : PowerState
  markerValid : Bool
  startKind : StartKind
deriving DecidableEq, Repr

/-! ## Image Port (11_retention_start_up_and_the_stored_image.md) -/

/-- Store results (R194). -/
inductive StoreResult where
  | none
  | badImage
  | running
  | ok
  | writeFail
deriving DecidableEq, Repr

/-- The Image Port. `memory` holds the bytes of the serial memory that are not erased; `copy` is the image being
written while a store runs; `freeDraws` is the model's own count of free values drawn (log entry 16). -/
structure ImagePort where
  fitted : Bool
  imageBad : Bool
  result : StoreResult
  copy : Option (List Byte)
  memory : List Host.Cell
  freeDraws : Nat
deriving DecidableEq, Repr

/-! ## Command Port (10_the_command_port_and_attention.md) -/

/-- Status codes, in the order of R180. -/
inductive Status where
  | ok
  | accepted
  | busy
  | noSelection
  | notFitted
  | unavailable
  | insufficient
  | noChange
  | doorOpen
  | doorClosed
  | quiet
  | laneBusy
  | badLink
  | outOfRange
  | tooWarm
  | noMemory
  | frameError
  | unknownRequest
  | noReply
deriving DecidableEq, Repr

/-- A reply: status, code answered, payload (R176). -/
structure Reply where
  status : Status
  code : Byte
  payload : List Byte
deriving DecidableEq, Repr

/-- The port's link (R178): ready, held by LRST_N low, or waiting for SEL_N high after it. -/
inductive LinkState where
  | ready
  | held
  | waitSelHigh
deriving DecidableEq, Repr

/-- The Command Port: the pending reply, the bytes shifted out on SDO in the last frame, the seventeen attention flags
and their mask (R181, R183). -/
structure Port where
  pending : Reply
  sdo : List Byte
  flags : BitVec 17
  mask : BitVec 17
  link : LinkState
deriving DecidableEq, Repr

/-! ## The machine -/

/-- The P380, and the queue of the commands that wait, first in, first out. -/
structure State where
  lanes : LaneTable
  drive : DriveMatrix
  tubes : TubeTable
  coins : CoinRouter
  payout : PayoutEngine
  session : Session
  machine : MachineSettings
  vend : VendEngine
  cooling : Cooling
  arbiter : Arbiter
  supply : Supply
  image : ImagePort
  port : Port
  pending : List Instr
deriving DecidableEq, Repr

/-- The machine never stops with a fault: the spec answers every request with a status and gives every event an
effect. -/
inductive Fault where
deriving DecidableEq, Repr

/-- The only refusal: a command that has no meaning yet. No arm of `exec` answers with it. -/
inductive Refusal where
  /-- Raised by an arm of `exec` for a command not modelled, named by its mnemonic; safe. -/
  | notModelled (mnemonic : String)
deriving DecidableEq, Repr

/-! ## Values after a cold start (R191 and the owners' start rules) -/

/-- The defaults of R186. -/
def MachineSettings.initial : MachineSettings :=
  { tStart := 400, tCycle := 4000, tDrop := 1200, retries := 1, dropSensing := true, budgetWait := 5000,
    transitLimit := 300, payoutCoinLimit := 250, vendMode := .single, creditCeiling := 2000, sessionTimeout := 60,
    expectedCode := 0 }

/-- The defaults of R143. -/
def CoolingSettings.initial : CoolingSettings :=
  { setpoint := 30, differential := 20, setback := 30, holdLimit := 80, holdDelay := 30, minimumOff := 180,
    minimumRun := 120, startInterval := 3, defrostInterval := 6, termination := 80, maximumDefrost := 20, drip := 3,
    fallbackRun := 10, fallbackOff := 20, enabled := true }

/-- A tube's cold-start values (table before R41). -/
def Tube.initial : Tube :=
  { value := 0, capacity := 100, lowMark := 0, reserve := 0, presence := .absent, count := 0, verified := false,
    committed := 0, fullCovered := false, lowCovered := false }

/-- A channel after every start (R157). -/
def Channel.initial : Channel :=
  { status := .ok, filtered := none, lastSample := none, faultRun := 0, validRun := 0, lastFault := none }

/-- The Session Record of zeros (R96, R97). -/
def SessionRecord.initial : SessionRecord :=
  { accepted := 0, coinSales := 0, paid := 0, cashlessGranted := 0, cashlessUsed := 0, cashlessReturned := 0 }

/-- The Grant Table after every start (R159). -/
def GrantTable.initial : GrantTable :=
  { payout := .idle, vend := .idle, compressor := .idle, defrost := .idle, compressorRun := 0 }

/-- The machine after reset: a cold start with no serial memory fitted has completed (R191), the cassette is out, the
rail is good and the cell reads GOOD (log entry 6). -/
def State.reset : State :=
  { lanes :=
      { records := Vector.replicate 80 none
        windows := Vector.replicate 8 { firstCode := 0, lastCode := 0, baseLane := 0, enabled := false }
        faultedCount := 0 }
    drive := { context := none, marker := none }
    tubes :=
      { tubes := Vector.replicate 6 Tube.initial, contactFirst := false, contactSecond := false, cassette := .removed,
        cassetteCode := 0, probes := Vector.replicate 4 0, exactChange := false }
    coins :=
      { table := Vector.replicate 16 { value := 0, destination := .cashbox, inhibit := false, changeDependent := false }
        acceptance := true, slot := none, diverter := .cashbox, lastReject := none, cashbox := 0 }
    payout := { order := none, held := false, record := none, solenoids := Vector.replicate 6 none }
    session :=
      { coin := 0, cashless := 0, escrowCoin := 0, escrowCashless := 0, state := .idle, cancelPending := false,
        timer := none, record := SessionRecord.initial }
    machine := MachineSettings.initial
    vend := { context := none, result := none }
    cooling :=
      { cabinet := Channel.initial, coil := Channel.initial, call := false, fallback := none,
        compressor := .offResting, minimumOff := some { elapsed := 0, limit := 180000 }, startInterval := none,
        minimumRun := none, yieldHeld := false, accumulatedRun := 0, runPhase := 0, defrost := .none,
        defrostTimer := 0, drip := none, hold := .clear, holdTimer := 0, settings := CoolingSettings.initial }
    arbiter :=
      { table := GrantTable.initial, budget := 60, pendingBudget := none, payoutDemand := 8, startDemand := 45,
        runDemand := 18, defrostDemand := 25, fair := false, releaseMode := .ror }
    supply :=
      { underLevel := false, overLevel := false, underSeen := false, overSeen := false, door := .opened,
        quiet := false, wakeCoin := true, wakeDoor := true, wakeCashless := false, cell := .good, power := .running,
        markerValid := true, startKind := .cold }
    image := { fitted := false, imageBad := false, result := .none, copy := none, memory := [], freeDraws := 0 }
    port :=
      { pending := { status := .noReply, code := 0x00#8, payload := [] }, sdo := [], flags := 0#17, mask := 0#17,
        link := .ready }
    pending := [] }

end Sys2Proof.Machine
end

