-- ==== Sys2Proof/Machine/Flags.lean ====
section
/-! DEFINITION. The seventeen attention flags, the mask and ATTN_N (R181–R185). -/
namespace Sys2Proof.Machine

/-- The attention flags, in the order of the flag table of file 10. -/
inductive Flag where
  | supply
  | shortPay
  | cassette
  | hold
  | vendDone
  | payoutDone
  | laneFault
  | tubeFault
  | coinPath
  | cashlessSettled
  | coolingFault
  | coin
  | exactChange
  | wake
  | cell
  | storeDone
  | link
deriving DecidableEq, Repr

/-- The bit position of a flag (R181: SUPPLY is bit 0 and LINK is bit 16). -/
def Flag.bit : Flag → Fin 17
  | .supply => 0
  | .shortPay => 1
  | .cassette => 2
  | .hold => 3
  | .vendDone => 4
  | .payoutDone => 5
  | .laneFault => 6
  | .tubeFault => 7
  | .coinPath => 8
  | .cashlessSettled => 9
  | .coolingFault => 10
  | .coin => 11
  | .exactChange => 12
  | .wake => 13
  | .cell => 14
  | .storeDone => 15
  | .link => 16

/-- The flag word with that one flag set. -/
def Flag.word (f : Flag) : BitVec 17 := BitVec.ofNat 17 (2 ^ f.bit.val)

/-- Whether a flag is set. -/
def Port.isSet (p : Port) (f : Flag) : Bool := p.flags.getLsb f.bit

/-- A block's event sets a flag; a flag already set stays set (R182). -/
def State.setFlag (f : Flag) (s : State) : State :=
  { s with port := { s.port with flags := s.port.flags ||| f.word } }

/-- Set a flag when a condition holds. -/
def State.setFlagIf (c : Bool) (f : Flag) (s : State) : State := if c then s.setFlag f else s

/-- ATTN_N is pulled low while at least one flag is set and not masked (R183); from a power-fail warning to the next
start it is released (R179). True is low. -/
def State.attnLow (s : State) : Bool :=
  s.supply.power = .running && (s.port.flags &&& ~~~s.port.mask) != 0#17

/-- The set flag with the lowest bit position among the first `n`, or none (R184). -/
def firstSetBelow (w : BitVec 17) : Nat → Option Nat
  | 0 => none
  | n + 1 =>
    match firstSetBelow w n with
    | some b => some b
    | none => if w.getLsbD n then some n else none

/-- The first set flag, masked or not (R184). -/
def Port.firstSet (p : Port) : Option Nat := firstSetBelow p.flags 17

/-- The flag bits of a three-byte word; bits 17 to 23 are ignored (R183, R185). -/
def flagBits (w : FlagWord) : BitVec 17 := w.setWidth 17

end Sys2Proof.Machine
end

