-- ==== Sys2Proof/Config.lean ====
section
/-! DEFINITION. The values the spec leaves open. Each is an opaque constant: nothing proves which value it has. -/
namespace Sys2Proof

/-- How many of the byte writes of an image store had been made when a power-fail warning or an RST_N assertion
abandoned it (R194 says that the store is abandoned, not how far it had come). DESIGN CHOICE, log entry 16: a free
value for each abandoned store, numbered by `ImagePort.freeDraws`. -/
opaque Config.freeStoreProgress : Nat → Nat

/-- The number that stands in a reply field of `width` bytes for a value that does not fit it (R176 gives the width
and no such value). DESIGN CHOICE, log entry 14. -/
opaque Config.freeField (width value : Nat) : Nat

end Sys2Proof
end

