-- ==== Sys2Proof/Decode.lean ====
section
/-! DEFINITION. The frames of the command port and the requests they spell (R175, R177, the request table of
10_the_command_port_and_attention.md), their encoder, and the opcode table's words. The opcode table gives its rows no
bits; the frame bytes are the encoding the spec gives the requests. -/
namespace Sys2Proof

/-- The parameter bytes of each request but NOP, by its code (request table of file 10); `none` for a code that names
no request. -/
def requestLength : Nat → Option Nat
  | 0x01 => some 0 | 0x02 => some 3 | 0x03 => some 3
  | 0x10 => some 2 | 0x11 => some 1 | 0x12 => some 12 | 0x13 => some 2 | 0x14 => some 2 | 0x15 => some 1
  | 0x16 => some 1 | 0x17 => some 7 | 0x18 => some 1
  | 0x20 => some 2 | 0x21 => some 1 | 0x22 => some 1 | 0x23 => some 0
  | 0x30 => some 2 | 0x31 => some 0 | 0x32 => some 0 | 0x33 => some 1 | 0x34 => some 6 | 0x35 => some 6
  | 0x36 => some 2 | 0x37 => some 1 | 0x38 => some 8 | 0x39 => some 0 | 0x3A => some 2 | 0x3B => some 0
  | 0x3C => some 0
  | 0x40 => some 18 | 0x41 => some 0 | 0x42 => some 0 | 0x43 => some 0
  | 0x50 => some 7 | 0x51 => some 0 | 0x52 => some 0 | 0x53 => some 0 | 0x54 => some 3 | 0x55 => some 1
  | 0x60 => some 19 | 0x61 => some 0
  | _ => none

/-! The parameter groups that a frame and the stored image share (R192), as bytes and from bytes. -/

/-- The two bytes of a two-byte field, most significant first. -/
def halfBytes (h : Half) : List Byte := [hiByte h, loByte h]

/-- The 11 bytes of SET_LANE's configuration after the lane (R16). -/
def LaneParams.bytes (p : LaneParams) : List Byte :=
  [hiByte p.price, loByte p.price, p.stockMode, p.capacity, p.laneClass, p.motorKind,
   hiByte p.runTime, loByte p.runTime, p.demand, hiByte p.duty, loByte p.duty]

/-- SET_LANE's configuration from its 11 bytes. -/
def LaneParams.ofBytes : List Byte → Option LaneParams
  | [p1, p0, mode, cap, cls, kind, r1, r0, dem, d1, d0] =>
    some { price := half p1 p0, stockMode := mode, capacity := cap, laneClass := cls, motorKind := kind,
           runTime := half r1 r0, demand := dem, duty := half d1 d0 }
  | _ => none

/-- The six bytes of SET_WINDOW after the window number (R12). -/
def WindowParams.bytes (p : WindowParams) : List Byte :=
  [hiByte p.firstCode, loByte p.firstCode, hiByte p.lastCode, loByte p.lastCode, p.baseLane, p.enabled]

/-- SET_WINDOW's fields from their six bytes. -/
def WindowParams.ofBytes : List Byte → Option WindowParams
  | [f1, f0, l1, l0, base, en] =>
    some { firstCode := half f1 f0, lastCode := half l1 l0, baseLane := base, enabled := en }
  | _ => none

/-- The five bytes of SET_COIN_TYPE after the type (R59). -/
def CoinParams.bytes (p : CoinParams) : List Byte :=
  [hiByte p.value, loByte p.value, p.destination, p.inhibit, p.changeDependent]

/-- SET_COIN_TYPE's fields from their five bytes. -/
def CoinParams.ofBytes : List Byte → Option CoinParams
  | [v1, v0, d, i, c] => some { value := half v1 v0, destination := d, inhibit := i, changeDependent := c }
  | _ => none

/-- The five bytes of SET_TUBE after the tube (R54). -/
def TubeParams.bytes (p : TubeParams) : List Byte :=
  [hiByte p.value, loByte p.value, p.capacity, p.lowMark, p.reserve]

/-- SET_TUBE's fields from their five bytes. -/
def TubeParams.ofBytes : List Byte → Option TubeParams
  | [v1, v0, c, l, r] => some { value := half v1 v0, capacity := c, lowMark := l, reserve := r }
  | _ => none

/-- The 19 bytes of SET_MACHINE (R186). -/
def MachineParams.bytes (p : MachineParams) : List Byte :=
  [hiByte p.tStart, loByte p.tStart, hiByte p.tCycle, loByte p.tCycle, hiByte p.tDrop, loByte p.tDrop,
   p.retries, p.dropSensing, hiByte p.budgetWait, loByte p.budgetWait,
   hiByte p.transitLimit, loByte p.transitLimit, hiByte p.payoutCoinLimit, loByte p.payoutCoinLimit,
   p.vendMode, hiByte p.creditCeiling, loByte p.creditCeiling, p.sessionTimeout, p.expectedCode]

/-- SET_MACHINE's settings from their 19 bytes. -/
def MachineParams.ofBytes : List Byte → Option MachineParams
  | [s1, s0, c1, c0, d1, d0, ret, sense, b1, b0, t1, t0, p1, p0, mode, k1, k0, timeout, code] =>
    some { tStart := half s1 s0, tCycle := half c1 c0, tDrop := half d1 d0, retries := ret, dropSensing := sense,
           budgetWait := half b1 b0, transitLimit := half t1 t0, payoutCoinLimit := half p1 p0, vendMode := mode,
           creditCeiling := half k1 k0, sessionTimeout := timeout, expectedCode := code }
  | _ => none

/-- The 18 bytes of SET_COOLING (R143), and of the settings in the replies of SET_COOLING and READ_COOLING: that D, E, H
and the termination have one byte there too, although they are temperatures (R176), is log entry 13. -/
def CoolingParams.bytes (p : CoolingParams) : List Byte :=
  [hiByte p.setpoint, loByte p.setpoint, p.differential, p.setback, p.holdLimit, p.holdDelay,
   hiByte p.minimumOff, loByte p.minimumOff, hiByte p.minimumRun, loByte p.minimumRun, p.startInterval,
   p.defrostInterval, p.termination, p.maximumDefrost, p.drip, p.fallbackRun, p.fallbackOff, p.enabled]

/-- SET_COOLING's settings from their 18 bytes. -/
def CoolingParams.ofBytes : List Byte → Option CoolingParams
  | [s1, s0, diff, setb, hl, hd, o1, o0, r1, r0, si, di, te, md, dr, fr, fo, en] =>
    some { setpoint := half s1 s0, differential := diff, setback := setb, holdLimit := hl, holdDelay := hd,
           minimumOff := half o1 o0, minimumRun := half r1 r0, startInterval := si, defrostInterval := di,
           termination := te, maximumDefrost := md, drip := dr, fallbackRun := fr, fallbackOff := fo, enabled := en }
  | _ => none

/-- The seven bytes of SET_BUDGET (R164). -/
def BudgetParams.bytes (p : BudgetParams) : List Byte :=
  [p.budget, p.payoutDemand, p.startDemand, p.runDemand, p.defrostDemand, p.fair, p.releaseMode]

/-- SET_BUDGET's settings from their seven bytes. -/
def BudgetParams.ofBytes : List Byte → Option BudgetParams
  | [b, pd, sd, rd, dd, f, m] =>
    some { budget := b, payoutDemand := pd, startDemand := sd, runDemand := rd, defrostDemand := dd, fair := f,
           releaseMode := m }
  | _ => none

/-- The three bytes of SET_WAKE_SOURCES (R171). -/
def WakeParams.bytes (p : WakeParams) : List Byte := [p.coin, p.door, p.cashless]

/-- SET_WAKE_SOURCES's enables from their three bytes. -/
def WakeParams.ofBytes : List Byte → Option WakeParams
  | [c, d, k] => some { coin := c, door := d, cashless := k }
  | _ => none

/-- The eight bytes of SET_PROBES (R56). -/
def ProbeParams.bytes (p : ProbeParams) : List Byte :=
  [hiByte p.amount0, loByte p.amount0, hiByte p.amount1, loByte p.amount1,
   hiByte p.amount2, loByte p.amount2, hiByte p.amount3, loByte p.amount3]

/-- SET_PROBES's amounts from their eight bytes. -/
def ProbeParams.ofBytes : List Byte → Option ProbeParams
  | [a1, a0, b1, b0, c1, c0, d1, d0] =>
    some { amount0 := half a1 a0, amount1 := half b1 b0, amount2 := half c1 c0, amount3 := half d1 d0 }
  | _ => none

/-! Requests with no parameter, with one byte, with two bytes, and with one two-byte field. -/

/-- The request `i`, when there is no parameter byte. -/
def decode0 (i : Instr) : List Byte → Option Instr
  | [] => some i
  | _ => none

/-- The request `f a` of one parameter byte `a`. -/
def decode1 (f : Byte → Instr) : List Byte → Option Instr
  | [a] => some (f a)
  | _ => none

/-- The request `f a b` of two one-byte parameters. -/
def decode2 (f : Byte → Byte → Instr) : List Byte → Option Instr
  | [a, b] => some (f a b)
  | _ => none

/-- The request `f h` of one two-byte parameter. -/
def decodeHalf (f : Half → Instr) : List Byte → Option Instr
  | [a, b] => some (f (half a b))
  | _ => none

/-- The request `f w` of one three-byte word. -/
def decodeWord3 (f : FlagWord → Instr) : List Byte → Option Instr
  | [a, b, c] => some (f (word3 a b c))
  | _ => none

/-- The request `f n p` of an index byte and a parameter group. -/
def decodeIndexed {α : Type} (f : Byte → α → Instr) (g : List Byte → Option α) : List Byte → Option Instr
  | n :: rest => (g rest).map (f n)
  | [] => none

/-- The request that a code and its parameter bytes spell (request table of file 10); `none` when the code names no
request or the byte count is not the request's. NOP is not among them (R177). -/
def decodeRequest (code : Nat) (ps : List Byte) : Option Instr :=
  match code with
  | 0x01 => decode0 .readAttention ps
  | 0x02 => decodeWord3 .ackAttention ps
  | 0x03 => decodeWord3 .setAttentionMask ps
  | 0x10 => decodeHalf .lookup ps
  | 0x11 => decode1 .readLane ps
  | 0x12 => decodeIndexed .setLane LaneParams.ofBytes ps
  | 0x13 => decode2 .setLink ps
  | 0x14 => decode2 .restock ps
  | 0x15 => decode1 .retireLane ps
  | 0x16 => decode1 .clearLaneFault ps
  | 0x17 => decodeIndexed .setWindow WindowParams.ofBytes ps
  | 0x18 => decode1 .readWindow ps
  | 0x20 => decodeHalf .vend ps
  | 0x21 => decode1 .testVend ps
  | 0x22 => decode1 .homeLane ps
  | 0x23 => decode0 .readVendResult ps
  | 0x30 => decodeHalf .grantCashless ps
  | 0x31 => decode0 .cancel ps
  | 0x32 => decode0 .readSession ps
  | 0x33 => decode1 .setAccept ps
  | 0x34 => decodeIndexed .setCoinType CoinParams.ofBytes ps
  | 0x35 => decodeIndexed .setTube TubeParams.ofBytes ps
  | 0x36 => decode2 .setTubeCount ps
  | 0x37 => decode1 .clearTubeFault ps
  | 0x38 => (ProbeParams.ofBytes ps).map .setProbes
  | 0x39 => decode0 .readTubes ps
  | 0x3A => decode2 .dispense ps
  | 0x3B => decode0 .readPayoutResult ps
  | 0x3C => decode0 .clearCashbox ps
  | 0x40 => (CoolingParams.ofBytes ps).map .setCooling
  | 0x41 => decode0 .readCooling ps
  | 0x42 => decode0 .releaseHold ps
  | 0x43 => decode0 .startDefrost ps
  | 0x50 => (BudgetParams.ofBytes ps).map .setBudget
  | 0x51 => decode0 .readBudget ps
  | 0x52 => decode0 .enterQuiet ps
  | 0x53 => decode0 .wake ps
  | 0x54 => (WakeParams.ofBytes ps).map .setWakeSources
  | 0x55 => decode1 .readSupply ps
  | 0x60 => (MachineParams.ofBytes ps).map .setMachine
  | 0x61 => decode0 .storeImage ps
  | _ => none

/-- The command that a frame is, judged when SEL_N rises (R177, its cases in their order): `bytes` are the whole bytes
clocked, `partBits` the bits of a part byte after them. -/
def decodeFrame (bytes : List Byte) (partBits : Nat) : Instr :=
  match bytes with
  | [] => .frameError bytes partBits
  | code :: ps =>
    if partBits ≠ 0 then .frameError bytes partBits
    else if code = 0x00#8 then .nop ps.length
    else if requestLength code.toNat = none then .unknownRequest code ps.length
    else match decodeRequest code.toNat ps with
      | some i => i
      | none => .frameError bytes partBits

/-- The request's code and parameter bytes (request table of file 10); `none` for a command that is no request of the
table. A NOP's further bytes are ignored (R177) and are sent as zeros. -/
def encodeFrame : Instr → Option (List Byte)
  | .nop extra => some (0x00#8 :: List.replicate extra 0x00#8)
  | .readAttention => some [0x01#8]
  | .ackAttention w => some [0x02#8, w.extractLsb' 16 8, w.extractLsb' 8 8, w.extractLsb' 0 8]
  | .setAttentionMask w => some [0x03#8, w.extractLsb' 16 8, w.extractLsb' 8 8, w.extractLsb' 0 8]
  | .lookup c => some (0x10#8 :: halfBytes c)
  | .readLane l => some [0x11#8, l]
  | .setLane l p => some (0x12#8 :: l :: p.bytes)
  | .setLink l a => some [0x13#8, l, a]
  | .restock l c => some [0x14#8, l, c]
  | .retireLane l => some [0x15#8, l]
  | .clearLaneFault l => some [0x16#8, l]
  | .setWindow w p => some (0x17#8 :: w :: p.bytes)
  | .readWindow w => some [0x18#8, w]
  | .vend c => some (0x20#8 :: halfBytes c)
  | .testVend l => some [0x21#8, l]
  | .homeLane l => some [0x22#8, l]
  | .readVendResult => some [0x23#8]
  | .grantCashless a => some (0x30#8 :: halfBytes a)
  | .cancel => some [0x31#8]
  | .readSession => some [0x32#8]
  | .setAccept m => some [0x33#8, m]
  | .setCoinType t p => some (0x34#8 :: t :: p.bytes)
  | .setTube t p => some (0x35#8 :: t :: p.bytes)
  | .setTubeCount t c => some [0x36#8, t, c]
  | .clearTubeFault t => some [0x37#8, t]
  | .setProbes p => some (0x38#8 :: p.bytes)
  | .readTubes => some [0x39#8]
  | .dispense t c => some [0x3A#8, t, c]
  | .readPayoutResult => some [0x3B#8]
  | .clearCashbox => some [0x3C#8]
  | .setCooling p => some (0x40#8 :: p.bytes)
  | .readCooling => some [0x41#8]
  | .releaseHold => some [0x42#8]
  | .startDefrost => some [0x43#8]
  | .setBudget p => some (0x50#8 :: p.bytes)
  | .readBudget => some [0x51#8]
  | .enterQuiet => some [0x52#8]
  | .wake => some [0x53#8]
  | .setWakeSources p => some (0x54#8 :: p.bytes)
  | .readSupply c => some [0x55#8, c]
  | .setMachine p => some (0x60#8 :: p.bytes)
  | .storeImage => some [0x61#8]
  | .frameError _ _ => none
  | .unknownRequest _ _ => none
  | .linkReset => none
  | .storeEnd _ => none
  | .coinPresented _ => none
  | .acceptSensorPulse => none
  | .transitLimitExpiry => none
  | .levelSensorTransition _ _ _ => none
  | .cassetteContactChange _ _ _ => none
  | .payoutBudgetWaitExpiry => none
  | .payoutSensorPulse => none
  | .payoutCoinLimitExpiry => none
  | .sessionTimeoutExpiry => none
  | .startLevelTaken _ => none
  | .homeLevelChange _ => none
  | .driveCurrentChange _ => none
  | .stallDebounceExpiry => none
  | .openCheck _ => none
  | .vendBudgetWaitExpiry => none
  | .tStartExpiry => none
  | .tCycleExpiry => none
  | .runTimeExpiry => none
  | .dropSeen => none
  | .dropWindowClose => none
  | .thermistorSample _ _ => none
  | .fallbackPhaseEnd => none
  | .startIntervalEnd => none
  | .minimumRunExpiry => none
  | .minimumOffEnd => none
  | .accumulatedRunCount => none
  | .maximumDefrostReached => none
  | .dripEnd => none
  | .holdDelayReached => none
  | .supplyEvent _ _ => none
  | .supplyCleared _ _ => none
  | .doorChange _ => none
  | .cellSample _ => none
  | .powerFailWarning _ => none
  | .rstNAssertion => none
  | .warmStart _ _ _ => none
  | .coldStart _ _ _ => none
  | .imageLoad _ _ => none
  | .lrstNRelease => none

/-- The command that a word of the opcode table spells. The table gives no row any bits (98_reader.md:
"n_rows_with_fixed": 0, "n_rows_with_fields": 0), so no word spells one. -/
def decodeTableWord (_nbits _w : Nat) : Option Instr := none

end Sys2Proof
end

