-- ==== Sys2Proof/Machine/Operands.lean ====
section
/-! DEFINITION. The operand forms: parameters as their requests read them (R181), settings clamped to their ranges, the
thresholds of the comparators, and the fields of reply payloads (R176). -/
namespace Sys2Proof.Machine

/-! ## Reading parameters -/

/-- A setting outside its range is clamped to the nearer limit (00_scope.md, Settings and index fields). -/
def clamp (lo hi n : Nat) : Nat := max lo (min hi n)

/-- The same for a signed setting. -/
def clampInt (lo hi n : Int) : Int := max lo (min hi n)

/-- An index field: `none` outside its range (00_scope.md). -/
def index (n : Nat) (b : Byte) : Option (Fin n) := if h : b.toNat < n then some ⟨b.toNat, h⟩ else none

/-- A yes or no field whose request names no refusal: 0 is no, any other value yes (R181). -/
def yesNo (b : Byte) : Bool := b != 0x00#8

/-- A yes or no field, or one of two choices numbered 0 and 1, whose request refuses any other value (R181): the second
choice is true. -/
def choice2 (b : Byte) : Option Bool := if b = 0x00#8 then some false else if b = 0x01#8 then some true else none

/-- A lane field where 0xFF means none (R181): the outer `none` is a value above the range. -/
def laneOrNone (b : Byte) : Option (Option LaneNo) :=
  if b = 0xFF#8 then some none else (index 80 b).map some

/-- The destination of a coin type: a tube, or 0xFF for CASHBOX (R59, R181). -/
def destination (b : Byte) : Option Route :=
  if b = 0xFF#8 then some .cashbox else (index 6 b).map .tube

/-- Class, by its numbering in the request table. -/
def laneClassOf (b : Byte) : Option LaneClass := (choice2 b).map fun c => if c then .chilled else .ambient

/-- The lane configuration SET_LANE carries, its enumerated fields decoded and its settings clamped (R16). The
capacity is used only for COUNTED, the run time only for TIMED. -/
structure LaneConfig where
  price : Nat
  counted : Bool
  capacity : Nat
  laneClass : LaneClass
  timed : Bool
  runTime : Nat
  demand : Nat
  duty : Nat
deriving DecidableEq, Repr

/-- SET_LANE's configuration: `none` when an enumerated field names no choice (R15 check 2). A drive demand of 0 takes
the default 12 and a drive duty of 0 the default 255 (R16). -/
def laneConfigOf (p : LaneParams) : Option LaneConfig :=
  match choice2 p.stockMode, laneClassOf p.laneClass, choice2 p.motorKind with
  | some uncounted, some cls, some timed =>
    some
      { price := p.price.toNat
        counted := !uncounted
        capacity := clamp 1 99 p.capacity.toNat
        laneClass := cls
        timed := timed
        runTime := clamp 100 10000 p.runTime.toNat
        demand := if p.demand = 0x00#8 then 12 else clamp 1 40 p.demand.toNat
        duty := if p.duty = 0x0000#16 then 255 else clamp 64 255 p.duty.toNat }
  | _, _, _ => none

/-- SET_WINDOW's window: `none` for a code above 999, a base lane above 79, or a first code above the last (R12). -/
def windowOf (p : WindowParams) : Option Window :=
  match index 80 p.baseLane with
  | none => none
  | some base =>
    if p.firstCode.toNat ≤ p.lastCode.toNat ∧ p.lastCode.toNat ≤ 999 then
      some { firstCode := p.firstCode.toNat, lastCode := p.lastCode.toNat, baseLane := base, enabled := yesNo p.enabled }
    else none

/-- SET_COIN_TYPE's entry: `none` for a destination that is neither a tube nor CASHBOX (R59). -/
def coinEntryOf (p : CoinParams) : Option CoinEntry :=
  (destination p.destination).map fun d =>
    { value := clamp 0 10000 p.value.toNat, destination := d, inhibit := yesNo p.inhibit,
      changeDependent := yesNo p.changeDependent }

/-- A tube's configuration (R54). -/
structure TubeConfig where
  value : Nat
  capacity : Nat
  lowMark : Nat
  reserve : Nat
deriving DecidableEq, Repr

/-- SET_TUBE's settings, clamped: the low mark to one less than the clamped capacity (R54). -/
def tubeConfigOf (p : TubeParams) : TubeConfig :=
  let cap := clamp 1 255 p.capacity.toNat
  { value := clamp 0 10000 p.value.toNat, capacity := cap, lowMark := clamp 0 (cap - 1) p.lowMark.toNat,
    reserve := clamp 0 255 p.reserve.toNat }

/-- SET_MACHINE's settings: `none` when drop sensing or vend mode names no choice (R186). -/
def machineSettingsOf (p : MachineParams) : Option MachineSettings :=
  match choice2 p.dropSensing, choice2 p.vendMode with
  | some sensing, some multi =>
    some
      { tStart := clamp 50 2000 p.tStart.toNat
        tCycle := clamp 500 10000 p.tCycle.toNat
        tDrop := clamp 100 3000 p.tDrop.toNat
        retries := clamp 0 2 p.retries.toNat
        dropSensing := sensing
        budgetWait := clamp 100 30000 p.budgetWait.toNat
        transitLimit := clamp 50 1000 p.transitLimit.toNat
        payoutCoinLimit := clamp 50 1000 p.payoutCoinLimit.toNat
        vendMode := if multi then .multi else .single
        creditCeiling := clamp 1 65535 p.creditCeiling.toNat
        sessionTimeout := clamp 0 255 p.sessionTimeout.toNat
        expectedCode := clamp 0 3 p.expectedCode.toNat }
  | _, _ => none

/-- SET_COOLING's settings: `none` when cooling enabled is neither yes nor no (R143). -/
def coolingSettingsOf (p : CoolingParams) : Option CoolingSettings :=
  (choice2 p.enabled).map fun enabled =>
    { setpoint := clampInt (-50) 150 p.setpoint.toInt
      differential := clamp 5 50 p.differential.toNat
      setback := clamp 0 100 p.setback.toNat
      holdLimit := clamp 0 200 p.holdLimit.toNat
      holdDelay := clamp 1 240 p.holdDelay.toNat
      minimumOff := clamp 60 900 p.minimumOff.toNat
      minimumRun := clamp 30 600 p.minimumRun.toNat
      startInterval := clamp 1 10 p.startInterval.toNat
      defrostInterval := clamp 1 24 p.defrostInterval.toNat
      termination := clamp 0 200 p.termination.toNat
      maximumDefrost := clamp 5 60 p.maximumDefrost.toNat
      drip := clamp 0 15 p.drip.toNat
      fallbackRun := clamp 1 60 p.fallbackRun.toNat
      fallbackOff := clamp 1 60 p.fallbackOff.toNat
      enabled := enabled }

/-- SET_BUDGET's settings, clamped (R164). -/
structure BudgetConfig where
  budget : Nat
  payoutDemand : Nat
  startDemand : Nat
  runDemand : Nat
  defrostDemand : Nat
  fair : Bool
  releaseMode : ReleaseMode
deriving DecidableEq, Repr

/-- SET_BUDGET's settings: `none` when FAIR or the release mode names no choice (R164). -/
def budgetConfigOf (p : BudgetParams) : Option BudgetConfig :=
  match choice2 p.fair, choice2 p.releaseMode with
  | some fair, some ror =>
    some
      { budget := clamp 10 250 p.budget.toNat
        payoutDemand := clamp 1 250 p.payoutDemand.toNat
        startDemand := clamp 1 250 p.startDemand.toNat
        runDemand := clamp 1 250 p.runDemand.toNat
        defrostDemand := clamp 1 250 p.defrostDemand.toNat
        fair := fair
        releaseMode := if ror then .ror else .rwd }
  | _, _ => none

/-! ## Thresholds -/

/-- Whether the rail is beyond a comparator's assert threshold (R166). -/
def railAsserts : SupplyKind → Nat → Bool
  | .under, mv => mv < 19000
  | .over, mv => 30000 < mv

/-- Whether the rail is beyond a comparator's clear threshold (R166). -/
def railClears : SupplyKind → Nat → Bool
  | .under, mv => 20000 < mv
  | .over, mv => mv < 29000

/-- The cell state of a cell voltage (R172). -/
def cellStateOf (mv : Nat) : CellState := if 2700 ≤ mv then .good else if 2400 ≤ mv then .weak else .dead

/-- The stall threshold of a drive demand, in milliamperes: 0.2 A for each budget unit (R32). -/
def stallThresholdOf (demand : Nat) : Nat := 200 * demand

/-- The open threshold, 0.05 A, in milliamperes (R32). -/
def openThreshold : Nat := 50

/-- What a reading is (R140): a valid sample in −400 to +1250, or a fault indication of its kind. -/
def readingOf : Reading → LastSample
  | .openCircuit => .fault .openCircuit
  | .shortCircuit => .fault .shortCircuit
  | .temperature t => if t < -400 then .fault .openCircuit else if 1250 < t then .fault .shortCircuit else .valid t

/-! ## Reply fields (R176) -/

/-- `width` bytes of a number, most significant first. -/
def bytesOf : Nat → Nat → List Byte
  | 0, _ => []
  | w + 1, n => BitVec.ofNat 8 (n / 256 ^ w) :: bytesOf w n

/-- A field of `width` bytes. A value that does not fit has an open coding (log entry 14). -/
def field (width n : Nat) : List Byte :=
  bytesOf width (if n < 256 ^ width then n else Config.freeField width n)

/-- A field that is absent: every bit set in its width. -/
def absent (width : Nat) : List Byte := List.replicate width 0xFF#8

/-- A field that may be absent. -/
def fieldOr (width : Nat) : Option Nat → List Byte
  | some n => field width n
  | none => absent width

/-- A yes or no item, or a bit numbered 0 and 1. -/
def bit (b : Bool) : List Byte := [if b then 0x01#8 else 0x00#8]

/-- A signed temperature; none is 0x8000. -/
def temperature : Option Int → List Byte
  | some t => halfBytes (BitVec.ofInt 16 t)
  | none => halfBytes 0x8000#16

/-- A last sample: OPEN is 0x8001 and SHORT 0x7FFF. -/
def lastSampleField : Option LastSample → List Byte
  | some (.valid t) => temperature (some t)
  | some (.fault .openCircuit) => halfBytes 0x8001#16
  | some (.fault .shortCircuit) => halfBytes 0x7FFF#16
  | none => temperature none

/-- A three-byte flag or mask word; bits 17 to 23 are 0 (R181). -/
def flagField (w : BitVec 17) : List Byte :=
  let x : BitVec 24 := w.setWidth 24
  [x.extractLsb' 16 8, x.extractLsb' 8 8, x.extractLsb' 0 8]

/-- The time left of a timer, in ms; none when it is stopped. -/
def timeLeft (t : Option Timer) : Option Nat := t.map fun t => t.limit - t.elapsed

/-! Enumerated items, numbered from 0 in the order their tables list them (R181). -/

/-- Fault causes (table before R1). -/
def FaultCause.code : FaultCause → Nat
  | .stall => 0
  | .openCircuit => 1
  | .noStart => 2
  | .jam => 3

/-- Routes: a tube number, or 0xFF for CASHBOX (R181). -/
def Route.code : Route → Nat
  | .tube t => t.val
  | .cashbox => 0xFF

/-- Return reasons (R62). -/
def RejectReason.code : RejectReason → Nat
  | .sessionBusy => 0
  | .quiet => 1
  | .doorOpen => 2
  | .acceptOff => 3
  | .inTransit => 4
  | .supply => 5
  | .unknownType => 6
  | .notConfigured => 7
  | .inhibited => 8
  | .ceiling => 9
  | .exactChange => 10

/-- Session states (R95). -/
def SessionState.code : SessionState → Nat
  | .idle => 0
  | .opened => 1
  | .vending => 2
  | .paying => 3

/-- Presence (table before R41). -/
def Presence.code : Presence → Nat
  | .absent => 0
  | .active => 1
  | .fault => 2

/-- Cassette states (R49). -/
def CassetteState.code : CassetteState → Nat
  | .seated => 0
  | .mismatch => 1
  | .partlySeated => 2
  | .removed => 3

/-- Payout sources (R93); NONE is listed third. -/
def payoutSourceCode : Option PayoutSource → Nat
  | some .session => 0
  | some .dispense => 1
  | none => 2

/-- Order states (table before R80). -/
def OrderState.code : OrderState → Nat
  | .waitGrant => 0
  | .paying => 1
  | .ended => 2

/-- Causes of an order's end (R93). -/
def PayoutCause.code : PayoutCause → Nat
  | .complete => 0
  | .short => 1
  | .budget => 2
  | .supply => 3
  | .cassette => 4

/-- Operation kinds (R187). -/
def opKindCode : Option OpKind → Nat
  | none => 0
  | some .vend => 1
  | some .testVend => 2
  | some .homeLane => 3

/-- Phases (R187). -/
def Phase.code : Phase → Nat
  | .waitGrant => 0
  | .homing => 1
  | .turning => 2
  | .afterStop => 3

/-- Outcomes (R187). -/
def VendOutcome.code : VendOutcome → Nat
  | .vended => 0
  | .failed => 1
  | .aborted => 2

/-- Reasons (R187). -/
def VendReason.code : VendReason → Nat
  | .empty => 0
  | .drive => 1
  | .budget => 2
  | .supply => 3
  | .held => 4

/-- Fault kinds (table before R140). -/
def FaultKind.code : FaultKind → Nat
  | .openCircuit => 0
  | .shortCircuit => 1

/-- Compressor states (before R146). -/
def CompressorState.code : CompressorState → Nat
  | .offResting => 0
  | .offIdle => 1
  | .waitBudget => 2
  | .starting => 3
  | .running => 4

/-- Defrost states (before R151). -/
def DefrostState.code : DefrostState → Nat
  | .none => 0
  | .pending => 1
  | .paused => 2
  | .heating => 3
  | .dripping => 4

/-- Hold states (R155). -/
def HoldState.code : HoldState → Nat
  | .clear => 0
  | .timing => 1
  | .latched => 2

/-- Cell states (R172). -/
def CellState.code : CellState → Nat
  | .good => 0
  | .weak => 1
  | .dead => 2

/-- Store results (R173). -/
def StoreResult.code : StoreResult → Nat
  | .none => 0
  | .badImage => 1
  | .running => 2
  | .ok => 3
  | .writeFail => 4

/-- Status bytes (R180). -/
def Status.code : Status → Byte
  | .ok => 0x00#8
  | .accepted => 0x01#8
  | .busy => 0x02#8
  | .noSelection => 0x03#8
  | .notFitted => 0x04#8
  | .unavailable => 0x05#8
  | .insufficient => 0x06#8
  | .noChange => 0x07#8
  | .doorOpen => 0x08#8
  | .doorClosed => 0x09#8
  | .quiet => 0x0A#8
  | .laneBusy => 0x0B#8
  | .badLink => 0x0C#8
  | .outOfRange => 0x0D#8
  | .tooWarm => 0x0E#8
  | .noMemory => 0x0F#8
  | .frameError => 0x10#8
  | .unknownRequest => 0x11#8
  | .noReply => 0x12#8

end Sys2Proof.Machine
end

