-- ==== Sys2Proof/Machine/Ops.lean ====
section
/-! DEFINITION. The named operations over one block's records: lanes and their reports (R4–R10), engaged marks (R6), the
accept gate (R60), the Session Controller's moves within one record (R96–R112), the Grant Table (R159–R164), the drive
outputs (R23) and the command port's frames (R175–R178). -/
namespace Sys2Proof.Machine

/-! ## Shared -/

/-- A timer started now with the given limit in ms. -/
def Timer.start (ms : Nat) : Timer := { elapsed := 0, limit := ms }

/-- A timer has reached its limit. -/
def Timer.isDue (t : Timer) : Bool := decide (t.limit ≤ t.elapsed)

/-- A timer is running and has reached its limit. -/
def timerDue : Option Timer → Bool
  | some t => t.isDue
  | none => false

/-- A timer was due when the event at hand was taken, or was started in the same instant over one that was: an expiry
that arrives together with the event is its own (log entry 31). -/
def Timer.spent (t : Timer) : Bool := t.isDue || t.overtaken

/-- A timer is running and spent. -/
def timerSpent : Option Timer → Bool
  | some t => t.spent
  | none => false

/-- A timer that an event has started over an `old` one that was spent when the event was taken: the expiry of the old
one arrived together with the event and does not take place (R35, R86, R113; log entry 31). -/
def Timer.replacing (old : Option Timer) (t : Timer) : Timer := { t with overtaken := t.overtaken || timerSpent old }

/-- An expiry command finds a running timer that it can be the expiry of (log entries 3 and 31). -/
def takesExpiry : Option Timer → Bool
  | some t => !t.overtaken
  | none => false

/-- Apply a function to every entry of a table. -/
def mapTable {α : Type} {n : Nat} (f : α → α) (v : Vector α n) : Vector α n :=
  ⟨(v.toList.map f).toArray, by simp⟩

/-- The part takes events: it is neither inert nor loading an image (R189, R191). -/
def State.isRunning (s : State) : Bool := s.supply.power = .running

/-- The supply condition is present while undervoltage or overvoltage is asserted (R166). -/
def State.supplyCondition (s : State) : Bool := s.supply.underLevel || s.supply.overLevel

/-- A machine event or a timer expiry: taken while the part runs, without effect while it is inert (R189). -/
def State.event (f : State → State) (s : State) : Host.Outcome State Fault Refusal :=
  .next (if s.isRunning then f s else s)

/-! ## Lanes -/

/-- The record of a lane. -/
def State.lane (s : State) (l : LaneNo) : LaneRecord := s.lanes.records[l]

/-- Replace the record of a lane. -/
def State.setLane (l : LaneNo) (r : LaneRecord) (s : State) : State :=
  { s with lanes := { s.lanes with records := s.lanes.records.set l r } }

/-- Change the record of a fitted lane; an UNFITTED one holds nothing to change. -/
def State.updateLane (l : LaneNo) (f : FittedLane → FittedLane) (s : State) : State :=
  s.setLane l ((s.lane l).map f)

/-- A lane is engaged while an operation that may drive it is in flight (R6). -/
def State.engaged (s : State) (l : LaneNo) : Bool :=
  match s.vend.context with
  | some c => c.chain.contains l
  | none => false

/-- In stock (R4). -/
def Stock.inStock : Stock → Bool
  | .counted stock _ => 0 < stock
  | .uncounted soldOut => !soldOut

/-- Held: CHILLED while the hold is LATCHED (R4). -/
def State.laneHeld (s : State) (f : FittedLane) : Bool :=
  f.laneClass = .chilled && s.cooling.hold = .latched

/-- Reasons of an unavailable lane, in the order of R4. -/
inductive Unavailable where
  | notFitted
  | faulted
  | empty
  | held
deriving DecidableEq, Repr

/-- The numbering of the reasons (R4, R181). -/
def Unavailable.code : Unavailable → Nat
  | .notFitted => 0
  | .faulted => 1
  | .empty => 2
  | .held => 3

/-- The first reason of R4 that applies; none for an available lane. -/
def State.unavailable (s : State) (l : LaneNo) : Option Unavailable :=
  match s.lane l with
  | none => some .notFitted
  | some f =>
    if f.fault.isSome then some .faulted
    else if !f.stock.inStock then some .empty
    else if s.laneHeld f then some .held
    else none

/-- Position as a record shows it: a TIMED lane's is HOME at all times (R1). -/
def Motor.position : Motor → Position
  | .homed p => p
  | .timed _ => .home

/-- Set the position of a HOMED lane; a TIMED lane's stays HOME (R10). -/
def Motor.moveTo (p : Position) : Motor → Motor
  | .homed _ => .homed p
  | .timed r => .timed r

/-- Whether a lane is HOMED. -/
def Motor.isHomed : Motor → Bool
  | .homed _ => true
  | .timed _ => false

/-- A newly fitted lane (R16, R3): ACTIVE, OFF_HOME if HOMED, stock 0 or sold-out clear, no alternate. -/
def LaneConfig.fit (c : LaneConfig) : FittedLane :=
  { fault := none
    price := c.price
    stock := if c.counted then .counted 0 c.capacity else .uncounted false
    laneClass := c.laneClass
    motor := if c.timed then .timed c.runTime else .homed .offHome
    alternate := none
    demand := c.demand
    duty := c.duty }

/-- Take one product from the stock, bounded at 0 (R2, R7). -/
def Stock.take : Stock → Stock
  | .counted stock cap => .counted (stock - 1) cap
  | .uncounted so => .uncounted so

/-- Make the stock EMPTY (R8). -/
def Stock.emptied : Stock → Stock
  | .counted _ cap => .counted 0 cap
  | .uncounted _ => .uncounted true

/-- A drop report (R7). -/
def State.dropReport (l : LaneNo) (s : State) : State := s.updateLane l fun f => { f with stock := f.stock.take }

/-- An empty report (R8). -/
def State.emptyReport (l : LaneNo) (s : State) : State := s.updateLane l fun f => { f with stock := f.stock.emptied }

/-- A position report (R10). -/
def State.positionReport (l : LaneNo) (p : Position) (s : State) : State :=
  s.updateLane l fun f => { f with motor := f.motor.moveTo p }

/-- Add to the count of FAULTED lanes (R5). -/
def State.addFaulted (n : Nat) (s : State) : State :=
  { s with lanes := { s.lanes with faultedCount := s.lanes.faultedCount + n } }

/-- Take one from the count of FAULTED lanes when the condition holds (R5). -/
def State.dropFaulted (c : Bool) (s : State) : State :=
  { s with lanes := { s.lanes with faultedCount := s.lanes.faultedCount - (if c then 1 else 0) } }

/-- A drive-fault report (R9): the lane becomes FAULTED with the cause and, if HOMED, OFF_HOME; the count rises only
from ACTIVE; LANE_FAULT is set. -/
def State.driveFaultReport (l : LaneNo) (cause : FaultCause) (s : State) : State :=
  match s.lane l with
  | none => s
  | some f =>
    ((s.setLane l (some { f with fault := some cause, motor := f.motor.moveTo .offHome })).addFaulted
      (if f.fault.isSome then 0 else 1)).setFlag .laneFault

/-- Whether a lane record is FAULTED. -/
def isFaulted : LaneRecord → Bool
  | some f => f.fault.isSome
  | none => false

/-! ## Selection windows -/

/-- Whether an enabled window contains a code (R14). -/
def Window.covers (w : Window) (code : Nat) : Bool :=
  w.enabled && decide (w.firstCode ≤ code) && decide (code ≤ w.lastCode)

/-- The number of the first window of a list that contains a code, numbered from `i`, with the window. -/
def findWindow (code : Nat) : Nat → List Window → Option (Nat × Window)
  | _, [] => none
  | i, w :: ws => if w.covers code then some (i, w) else findWindow code (i + 1) ws

/-- What lookup of a code finds (R14): the lowest-numbered enabled window that contains it, the lane number it
computes, and that lane where it is fitted. -/
structure Lookup where
  window : Option Nat
  computed : Option Nat
  lane : Option LaneNo
deriving DecidableEq, Repr

/-- Lookup (R14). The lowest match alone decides. -/
def State.lookupCode (s : State) (code : Nat) : Lookup :=
  match findWindow code 0 s.lanes.windows.toList with
  | none => { window := none, computed := none, lane := none }
  | some (i, w) =>
    let n := w.baseLane.val + (code - w.firstCode)
    if h : n < 80 then
      { window := some i, computed := some n, lane := if (s.lane ⟨n, h⟩).isSome then some ⟨n, h⟩ else none }
    else { window := some i, computed := none, lane := none }

/-! ## Tubes -/

/-- The record of a tube. -/
def State.tube (s : State) (t : TubeNo) : Tube := s.tubes.tubes[t]

/-- Replace the record of a tube. -/
def State.setTube (t : TubeNo) (r : Tube) (s : State) : State :=
  { s with tubes := { s.tubes with tubes := s.tubes.tubes.set t r } }

/-- Change every tube record. -/
def State.mapTubes (f : Tube → Tube) (s : State) : State :=
  { s with tubes := { s.tubes with tubes := mapTable f s.tubes.tubes } }

/-- A tube is configured when its value is not 0 (after the table before R41). -/
def Tube.configured (t : Tube) : Bool := t.value != 0

/-- The basis: the coins a tube can still pay (R42). -/
def Tube.basis (t : Tube) : Nat := if t.presence = .active then t.count - t.committed else 0

/-- FULL (R42). -/
def Tube.isFull (t : Tube) : Bool := decide (t.capacity ≤ t.count) || t.fullCovered

/-! ## Session Controller -/

/-- Coin credit, cashless credit and both escrow parts (before R95). -/
def Session.total (c : Session) : Nat := c.coin + c.cashless + c.escrowCoin + c.escrowCashless

/-- The value of the coin in transit, 0 when the slot is empty (R65). -/
def State.transitValue (s : State) : Nat :=
  match s.coins.slot with
  | some t => t.value
  | none => 0

/-- The headroom (R102). -/
def State.headroom (s : State) : Nat := s.machine.creditCeiling - s.session.total - s.transitValue

/-- The last-activity timer as a restart leaves it: stopped for a timeout of 0 (R112). -/
def MachineSettings.activityTimer (m : MachineSettings) : Option Timer :=
  if m.sessionTimeout = 0 then none else some (Timer.start (m.sessionTimeout * 1000))

/-- A last-activity timer that an activity has started over an `old` one: an expiry of the old one that arrived together
with the activity does not take place (R113). -/
def State.timerReplacing (old : Option Timer) (s : State) : State :=
  { s with session := { s.session with timer := s.session.timer.map (Timer.replacing old) } }

/-- Activity (R112): it restarts the last-activity timer in OPEN and does nothing in another state. -/
def State.activity (s : State) : State :=
  if s.session.state = .opened then
    State.timerReplacing s.session.timer { s with session := { s.session with timer := s.machine.activityTimer } }
  else s

/-- Enter OPEN, with the last-activity timer restarted (R112). -/
def State.openSession (s : State) : State :=
  { s with session := { s.session with state := .opened, timer := s.machine.activityTimer } }

/-- Enter IDLE, with the last-activity timer stopped (R112). -/
def State.idleSession (s : State) : State :=
  { s with session := { s.session with state := .idle, timer := none } }

/-- Enter OPEN when credit is left, IDLE otherwise (R106, R108). -/
def State.openOrIdle (s : State) : State :=
  if 0 < s.session.coin ∨ 0 < s.session.cashless then s.openSession else s.idleSession

/-- The Session Record is cleared as a session goes from IDLE to OPEN (R96). -/
def State.clearSessionRecord (s : State) : State :=
  { s with session := { s.session with record := SessionRecord.initial } }

/-- A settlement (R103): the cashless credit is returned, and CASHLESS_SETTLED is set; in a session with no cashless
granted it changes nothing. -/
def State.settle (s : State) : State :=
  if s.session.record.cashlessGranted = 0 then s
  else
    State.setFlag .cashlessSettled
      { s with session :=
          { s.session with
            cashless := 0
            record := { s.session.record with cashlessReturned := s.session.record.cashlessReturned + s.session.cashless } } }

/-- The price moves from credit into escrow, cashless first; the session becomes VENDING (R104). -/
def State.takeEscrow (price : Nat) (s : State) : State :=
  let cashlessPart := min s.session.cashless price
  let coinPart := price - cashlessPart
  { s with session :=
      { s.session with
        cashless := s.session.cashless - cashlessPart
        escrowCashless := cashlessPart
        coin := s.session.coin - coinPart
        escrowCoin := coinPart
        state := .vending
        timer := none
        cancelPending := false } }

/-- A drop of a VEND settles its escrow (R105). -/
def State.sellEscrow (s : State) : State :=
  { s with session :=
      { s.session with
        escrowCoin := 0
        escrowCashless := 0
        record :=
          { s.session.record with
            coinSales := s.session.record.coinSales + s.session.escrowCoin
            cashlessUsed := s.session.record.cashlessUsed + s.session.escrowCashless } } }

/-- The escrow returns to credit by its parts (R106, R97). -/
def State.returnEscrow (s : State) : State :=
  { s with session :=
      { s.session with
        coin := s.session.coin + s.session.escrowCoin
        cashless := s.session.cashless + s.session.escrowCashless
        escrowCoin := 0
        escrowCashless := 0 } }

/-- A change coin confirmed for a SESSION order (R85): coin credit falls and paid value rises by the tube's value. -/
def State.payCoinCredit (value : Nat) (s : State) : State :=
  { s with session :=
      { s.session with
        coin := s.session.coin - value
        record := { s.session.record with paid := s.session.record.paid + value } } }

/-- The end of a SESSION payout order (R111). -/
def State.sessionPayoutEnd (s : State) : State := if s.session.coin = 0 then s.idleSession else s.openSession

/-- A confirmed coin is credited (R66): from IDLE it opens a session with a cleared Session Record; in OPEN it is
activity. -/
def State.creditCoin (value : Nat) (s : State) : State :=
  let s := if s.session.state = .idle then s.clearSessionRecord.openSession else s
  State.activity
    { s with session :=
        { s.session with
          coin := s.session.coin + value
          record := { s.session.record with accepted := s.session.record.accepted + value } } }

/-! ## The accept gate -/

/-- The first closing condition of the gate, in the order of R60; none when it is OPEN. While the part is not running
the power-fail condition stands (R60, R70). -/
def State.gateClosed (s : State) : Option RejectReason :=
  if s.session.state = .vending ∨ s.session.state = .paying then some .sessionBusy
  else if s.supply.quiet then some .quiet
  else if s.supply.door = .opened then some .doorOpen
  else if !s.coins.acceptance then some .acceptOff
  else if s.coins.slot.isSome then some .inTransit
  else if s.supplyCondition || !s.isRunning then some .supply
  else none

/-- The accept gate is OPEN whenever no condition closes it (R60). -/
def State.gateOpen (s : State) : Bool := s.gateClosed.isNone

/-! ## Drive and relay outputs -/

/-- The lane driven, if any (table before R24). -/
def State.laneDriven (s : State) : Option LaneNo := s.drive.context.map (·.lane)

/-- Whether a row switch is on (modulated at the duty of the context): the driven lane's row alone (R23). -/
def State.rowOn (s : State) (row : Fin 8) : Bool :=
  match s.laneDriven with
  | some l => l.val / 10 = row.val
  | none => false

/-- Whether a column switch is on: the driven lane's column alone (R23). -/
def State.columnOn (s : State) (column : Fin 10) : Bool :=
  match s.laneDriven with
  | some l => l.val % 10 = column.val
  | none => false

/-- The compressor relay is closed in STARTING and RUNNING (table before R146), and open while the part is inert
(R157). -/
def State.compressorRelay (s : State) : Bool :=
  s.isRunning && (s.cooling.compressor = .starting || s.cooling.compressor = .running)

/-- The defrost heater relay is closed in HEATING (table before R151), and open while the part is inert (R157). -/
def State.heaterRelay (s : State) : Bool := s.isRunning && s.cooling.defrost = .heating

/-! ## The Grant Table -/

/-- The entry of a consumer. -/
def GrantTable.entry (g : GrantTable) : Consumer → Entry
  | .payout => g.payout
  | .vend => g.vend
  | .compressor => g.compressor
  | .defrost => g.defrost

/-- Replace the entry of a consumer. -/
def GrantTable.setEntry (g : GrantTable) (c : Consumer) (e : Entry) : GrantTable :=
  match c with
  | .payout => { g with payout := e }
  | .vend => { g with vend := e }
  | .compressor => { g with compressor := e }
  | .defrost => { g with defrost := e }

/-- The amount held; 0 unless GRANTED (table before R159). -/
def Entry.amount : Entry → Nat
  | .granted _ a => a
  | _ => 0

/-- Whether an entry is GRANTED. -/
def Entry.isGranted : Entry → Bool
  | .granted _ _ => true
  | _ => false

/-- A revoked entry: GRANTED becomes IDLE, a WAITING one keeps its request (R167). -/
def Entry.revoked : Entry → Entry
  | .granted _ _ => .idle
  | e => e

/-- The allocation: the sum of the granted amounts (before R159). -/
def GrantTable.allocation (g : GrantTable) : Nat :=
  g.payout.amount + g.vend.amount + g.compressor.amount + g.defrost.amount

/-- The granting limit (R160). -/
def Arbiter.limit (a : Arbiter) : Nat := a.pendingBudget.getD a.budget

/-- Whether a request of the recorded demand fits (R160). -/
def GrantTable.fits (g : GrantTable) (limit demand : Nat) : Bool := decide (g.allocation + min demand limit ≤ limit)

/-- The VEND entry is WAITING and does not fit (R161, R163). -/
def GrantTable.vendUnfit (g : GrantTable) (limit : Nat) : Bool :=
  match g.vend with
  | .waiting d => !g.fits limit d
  | _ => false

/-- Under ROR the COMPRESSOR and DEFROST requests are passed over while the VEND entry waits unfitted (R161). -/
def GrantTable.passedOver (g : GrantTable) (ror : Bool) (limit : Nat) (c : Consumer) : Bool :=
  ror && g.vendUnfit limit && (c = .compressor || c = .defrost)

/-- The grants of one evaluation over the given consumers in order (R161): the table they leave, and who was granted.
With FAIR on, consideration stops at the first waiting request that does not fit. -/
def grantPass (fair ror : Bool) (limit : Nat) : List Consumer → GrantTable → GrantTable × List Consumer
  | [], g => (g, [])
  | c :: cs, g =>
    match g.entry c with
    | .waiting d =>
      if g.passedOver ror limit c then grantPass fair ror limit cs g
      else if g.fits limit d then
        let r := grantPass fair ror limit cs (g.setEntry c (.granted d (min d limit)))
        (r.1, c :: r.2)
      else if fair then (g, [])
      else grantPass fair ror limit cs g
    | _ => grantPass fair ror limit cs g

/-- The fixed priority order (R161). -/
def priorityOrder : List Consumer := [.payout, .vend, .compressor, .defrost]

/-- The pending lowered budget becomes B once the allocation has fallen to it (R164). -/
def Arbiter.applyPending (a : Arbiter) : Arbiter :=
  match a.pendingBudget with
  | some p => if a.table.allocation ≤ p then { a with budget := p, pendingBudget := none } else a
  | none => a

/-- Replace an entry. -/
def State.setEntry (c : Consumer) (e : Entry) (s : State) : State :=
  { s with arbiter := { s.arbiter with table := s.arbiter.table.setEntry c e } }

/-- The pending lowered budget is checked (R162, R164). -/
def State.checkPending (s : State) : State := { s with arbiter := s.arbiter.applyPending }

/-- A request (R159): an IDLE entry becomes WAITING with its demand, and an evaluation `ev` follows (R161). -/
def State.request (ev : State → State) (c : Consumer) (demand : Nat) (s : State) : State :=
  match s.arbiter.table.entry c with
  | .idle => ev (s.setEntry c (.waiting demand))
  | _ => s

/-- A release or a withdrawal (R162): the entry becomes IDLE, the pending budget is checked, and an evaluation `ev`
follows. An entry already IDLE changes nothing and makes no evaluation. -/
def State.giveUp (ev : State → State) (c : Consumer) (s : State) : State :=
  match s.arbiter.table.entry c with
  | .idle => s
  | _ => ev (s.setEntry c .idle).checkPending

/-- The reduction of the COMPRESSOR grant at the end of the start interval (R162): the lesser of the amount held and
the recorded run demand, itself no more than the granting limit. -/
def State.reduceCompressor (ev : State → State) (s : State) : State :=
  match s.arbiter.table.compressor with
  | .granted d a =>
    ev (s.setEntry .compressor
      (.granted d (min a (min s.arbiter.table.compressorRun s.arbiter.limit)))).checkPending
  | _ => s

/-- A supply event revokes every grant, and the pending lowered budget is checked (R167). -/
def State.revokeAll (s : State) : State :=
  State.checkPending
    { s with arbiter :=
        { s.arbiter with table :=
            { s.arbiter.table with
              payout := s.arbiter.table.payout.revoked
              vend := s.arbiter.table.vend.revoked
              compressor := s.arbiter.table.compressor.revoked
              defrost := s.arbiter.table.defrost.revoked } } }

/-! ## Frames and replies -/

/-- What a request's owner answers: the status, the payload, and the state the request left. -/
structure Answer where
  status : Status
  payload : List Byte
  state : State
deriving DecidableEq, Repr

/-- A request taken. -/
def Answer.ok (payload : List Byte) (s : State) : Answer := { status := .ok, payload := payload, state := s }

/-- A request refused with a status and the items its rule names; it changes no record. -/
def Answer.refuse (status : Status) (s : State) (payload : List Byte := []) : Answer :=
  { status := status, payload := payload, state := s }

/-- The bytes of a reply in the order they are shifted out (R176). -/
def Reply.bytes (r : Reply) : List Byte := r.status.code :: r.code :: r.payload

/-- The bytes a frame of `n` bytes clocks out of a reply: 0x00 after the payload, and no more than the frame clocks in
(R176). -/
def Reply.shifted (r : Reply) (n : Nat) : List Byte := (r.bytes ++ List.replicate n 0x00#8).take n

/-- The NO_REPLY reply (R178). -/
def Reply.noReply : Reply := { status := .noReply, code := 0x00#8, payload := [] }

/-- The port takes frames: the part runs and LRST_N is not low (R178, R179). -/
def State.portOpen (s : State) : Bool := s.isRunning && s.port.link != .held

/-- The reply built for a request becomes the pending reply; the frame that carried the request has shifted out the one
before it (R176). -/
def Answer.deliver (a : Answer) (code : Byte) (out : List Byte) : State :=
  { a.state with port :=
      { a.state.port with
        pending := { status := a.status, code := code, payload := a.payload }, sdo := out, link := .ready } }

/-- A frame of `n` bytes with the code `code`, whose request `f` handles when SEL_N rises (R175, R177). While the port
takes no frame it is lost. -/
def State.frame (n : Nat) (code : Byte) (f : State → Answer) (s : State) : Host.Outcome State Fault Refusal :=
  .next (if s.portOpen then (f s).deliver code (s.port.pending.shifted n) else s)

end Sys2Proof.Machine
end

