-- ==== Sys2Proof/Machine/CoolingOps.lean ====
section
/-! DEFINITION. The Cooling Controller: the thermostat (R144), the compressor (R146–R150), the defrost (R151–R154), the
hold (R155) and the sensor channels (R140–R142). An operation that asks the Budget Arbiter for something is given the
evaluation `ev` that follows (R161). -/
namespace Sys2Proof.Machine

/-- Change the Cooling Controller. -/
def State.setCooling (c : Cooling) (s : State) : State := { s with cooling := c }

/-! ## Settings as times -/

/-- Minimum off, in ms. -/
def CoolingSettings.minimumOffMs (c : CoolingSettings) : Nat := c.minimumOff * 1000
/-- Minimum run, in ms. -/
def CoolingSettings.minimumRunMs (c : CoolingSettings) : Nat := c.minimumRun * 1000
/-- Start interval, in ms. -/
def CoolingSettings.startIntervalMs (c : CoolingSettings) : Nat := c.startInterval * 1000
/-- Hold delay, in ms. -/
def CoolingSettings.holdDelayMs (c : CoolingSettings) : Nat := c.holdDelay * 60000
/-- Maximum defrost, in ms. -/
def CoolingSettings.maximumDefrostMs (c : CoolingSettings) : Nat := c.maximumDefrost * 60000
/-- Drip, in ms. -/
def CoolingSettings.dripMs (c : CoolingSettings) : Nat := c.drip * 60000
/-- Fallback run, in ms. -/
def CoolingSettings.fallbackRunMs (c : CoolingSettings) : Nat := c.fallbackRun * 60000
/-- Fallback off, in ms. -/
def CoolingSettings.fallbackOffMs (c : CoolingSettings) : Nat := c.fallbackOff * 60000
/-- Defrost interval, in seconds of accumulated run. -/
def CoolingSettings.defrostIntervalSeconds (c : CoolingSettings) : Nat := c.defrostInterval * 3600

/-- The effective setpoint: S, or S + E while the part is QUIET (R144). -/
def State.effectiveSetpoint (s : State) : Int :=
  s.cooling.settings.setpoint + (if s.supply.quiet then (s.cooling.settings.setback : Int) else 0)

/-- The cut-in point: the effective setpoint plus D (R144, R156). -/
def State.cutIn (s : State) : Int := s.effectiveSetpoint + s.cooling.settings.differential

/-! ## The compressor's stop and the defrost's request -/

/-- A compressor with a call, cooling enabled and no defrost in progress is called to run (R146). -/
def Cooling.calledToRun (c : Cooling) : Bool := c.call && c.settings.enabled && c.defrost = .none

/-- Whether the compressor runs: STARTING or RUNNING. -/
def CompressorState.isOn : CompressorState → Bool
  | .starting => true
  | .running => true
  | _ => false

/-- A due defrost goes on: it enters PAUSED and asks for a DEFROST grant (R151). -/
def State.defrostGoesOn (ev : State → State) (s : State) : State :=
  (s.setCooling { s.cooling with defrost := .paused }).request ev .defrost s.arbiter.defrostDemand

/-- The Cooling Controller as a compressor stop leaves it (R147): resting, with a fresh minimum off. The part of a second
run since the last count is dropped, a whole one too when the stop is taken before its count (log entry 30). -/
def Cooling.stopped (c : Cooling) : Cooling :=
  { c with compressor := .offResting, minimumOff := some (Timer.start c.settings.minimumOffMs), startInterval := none,
           minimumRun := none, yieldHeld := false, runPhase := 0 }

/-- A compressor stop (R147): the relay opens, the grant is released or has been revoked, and a PENDING defrost goes on
(R151). -/
def State.stopCompressor (ev : State → State) (s : State) : State :=
  let s := (s.setCooling s.cooling.stopped).giveUp ev .compressor
  if s.cooling.defrost = .pending then s.defrostGoesOn ev else s

/-- A waiting compressor withdraws its request and returns to OFF_IDLE (R146). -/
def State.withdrawCompressor (ev : State → State) (s : State) : State :=
  (s.setCooling { s.cooling with compressor := .offIdle }).giveUp ev .compressor

/-- A compressor called to run asks for a COMPRESSOR grant at the start demand; the run demand is recorded with it
(R146, R159). -/
def State.requestCompressor (ev : State → State) (s : State) : State :=
  State.request ev .compressor s.arbiter.startDemand
    { s with
      cooling := { s.cooling with compressor := .waitBudget }
      arbiter := { s.arbiter with table := { s.arbiter.table with compressorRun := s.arbiter.runDemand } } }

/-- The compressor acts on its call, on cooling enabled and on the defrost state as they stand (R146, R147, R149). -/
def State.updateCompressor (ev : State → State) (s : State) : State :=
  match s.cooling.compressor with
  | .offResting => s
  | .offIdle => if s.cooling.calledToRun then s.requestCompressor ev else s
  | .waitBudget => if s.cooling.calledToRun then s else s.withdrawCompressor ev
  | .starting =>
    if !(s.cooling.call && s.cooling.settings.enabled) && s.cooling.minimumRun.isNone then s.stopCompressor ev else s
  | .running =>
    if !(s.cooling.call && s.cooling.settings.enabled) && s.cooling.minimumRun.isNone then s.stopCompressor ev else s

/-- The call is set; a change of it is handed to the compressor (R144). -/
def State.setCall (ev : State → State) (call : Bool) (s : State) : State :=
  if call = s.cooling.call then s else (s.setCooling { s.cooling with call := call }).updateCompressor ev

/-- The call that a CABINET channel that is OK gives (R144): off while it is not seeded. -/
def State.thermostatCall (s : State) : Bool :=
  match s.cooling.cabinet.filtered with
  | none => false
  | some t => if s.cutIn ≤ t then true else if t ≤ s.effectiveSetpoint then false else s.cooling.call

/-- The thermostat is evaluated (R144); while CABINET is in FAULT the fallback cycle sets the call (R145). -/
def State.evaluateThermostat (ev : State → State) (s : State) : State :=
  match s.cooling.cabinet.status with
  | .ok => s.setCall ev s.thermostatCall
  | .fault => s

/-- The compressor is given its grant (R146): it enters STARTING, the start interval and the minimum run start. -/
def State.compressorGranted (s : State) : State :=
  match s.cooling.compressor with
  | .waitBudget =>
    s.setCooling
      { s.cooling with
        compressor := .starting
        startInterval := some (Timer.start s.cooling.settings.startIntervalMs)
        minimumRun := some (Timer.start s.cooling.settings.minimumRunMs)
        runPhase := 0 }
  | _ => s

/-- A yield to the compressor (R150): RUNNING with its minimum run elapsed stops; STARTING, or RUNNING before that,
records the yield as held. -/
def State.yieldCompressor (ev : State → State) (s : State) : State :=
  match s.cooling.compressor with
  | .running =>
    if s.cooling.minimumRun.isNone then s.stopCompressor ev else s.setCooling { s.cooling with yieldHeld := true }
  | .starting => s.setCooling { s.cooling with yieldHeld := true }
  | _ => s

/-- A revocation of the compressor (R150). -/
def State.revokeCompressor (ev : State → State) (s : State) : State :=
  if s.cooling.compressor.isOn then s.stopCompressor ev else s

/-- A held yield still stands (R163): ROR, and the VEND entry is WAITING and does not fit. -/
def State.yieldStands (s : State) : Bool :=
  s.arbiter.releaseMode = .ror && s.arbiter.table.vendUnfit s.arbiter.limit

/-- Minimum run expires (R147, R149, R150, R151): the compressor stops with no call, with cooling disabled, with a
defrost waiting, or with a held yield that still stands; otherwise the held yield is dropped. -/
def State.minimumRunExpires (ev : State → State) (s : State) : State :=
  if s.cooling.compressor.isOn && s.cooling.minimumRun.isSome then
    let stands := s.cooling.yieldHeld && s.yieldStands
    let s := s.setCooling { s.cooling with minimumRun := none, yieldHeld := false }
    if stands || s.cooling.defrost = .pending || !(s.cooling.call && s.cooling.settings.enabled) then
      s.stopCompressor ev
    else s
  else s

/-! ## Defrost -/

/-- A defrost becomes due in NONE (R151): PENDING, with the defrost timer at 0, and then as the compressor's state
gives. -/
def State.defrostDue (ev : State → State) (s : State) : State :=
  if s.cooling.defrost = .none then
    let s := s.setCooling { s.cooling with defrost := .pending, defrostTimer := 0 }
    match s.cooling.compressor with
    | .offResting => s.defrostGoesOn ev
    | .offIdle => s.defrostGoesOn ev
    | .waitBudget => (s.withdrawCompressor ev).defrostGoesOn ev
    | .starting => if s.cooling.minimumRun.isNone then s.stopCompressor ev else s
    | .running => if s.cooling.minimumRun.isNone then s.stopCompressor ev else s
  else s

/-- The defrost interval is checked against accumulated run (R151). -/
def State.checkDefrostInterval (ev : State → State) (s : State) : State :=
  if s.cooling.settings.defrostIntervalSeconds ≤ s.cooling.accumulatedRun then s.defrostDue ev else s

/-- The drip ends (R153): NONE, accumulated run 0, and the compressor resumes. The defrost timer keeps its count until
the next defrost is due (log entry 33). -/
def State.dripEnds (ev : State → State) (s : State) : State :=
  (s.setCooling { s.cooling with defrost := .none, drip := none, accumulatedRun := 0 }).updateCompressor ev

/-- Heating ends (R153): the heater opens, DRIPPING with the drip in force, the DEFROST grant is released; a drip of 0
ends at once. -/
def State.heatingEnds (ev : State → State) (s : State) : State :=
  let ms := s.cooling.settings.dripMs
  let s :=
    (s.setCooling { s.cooling with defrost := .dripping, drip := some (Timer.start ms) }).giveUp ev .defrost
  if ms = 0 then s.dripEnds ev else s

/-- Termination by temperature (R152): COIL OK and seeded, with T_f at or above the defrost termination. -/
def Cooling.coilWarm (c : Cooling) : Bool :=
  c.coil.status = .ok &&
    match c.coil.filtered with
    | some t => decide ((c.settings.termination : Int) ≤ t)
    | none => false

/-- The defrost timer is at or above the maximum defrost (R152). -/
def Cooling.defrostTimedOut (c : Cooling) : Bool := decide (c.settings.maximumDefrostMs ≤ c.defrostTimer)

/-- The defrost is given its grant (R152): the termination test, and HEATING when it fails. -/
def State.defrostGranted (ev : State → State) (s : State) : State :=
  match s.cooling.defrost with
  | .paused =>
    if s.cooling.coilWarm || s.cooling.defrostTimedOut then s.heatingEnds ev
    else s.setCooling { s.cooling with defrost := .heating }
  | _ => s

/-- A yield to the defrost (R154): HEATING goes to PAUSED, its grant is released and its request made again. -/
def State.yieldDefrost (ev : State → State) (s : State) : State :=
  match s.cooling.defrost with
  | .heating =>
    let s := (s.setCooling { s.cooling with defrost := .paused }).giveUp ev .defrost
    s.request ev .defrost s.arbiter.defrostDemand
  | _ => s

/-- A revocation of the defrost (R154): HEATING goes to PAUSED and its request is made again. -/
def State.revokeDefrost (ev : State → State) (s : State) : State := s.yieldDefrost ev

/-! ## The hold -/

/-- The hold condition (R155). A CABINET that is OK and not seeded gives no comparison (before R141), so there is none:
the first seeding or the first FAULT evaluates it (R157, log entry 21). -/
def Cooling.holdCondition (c : Cooling) : Option Bool :=
  match c.cabinet.status with
  | .fault => some true
  | .ok => c.cabinet.filtered.map fun t => decide ((c.settings.holdLimit : Int) < t)

/-- The hold condition is evaluated (R155). -/
def State.evaluateHold (s : State) : State :=
  match s.cooling.hold, s.cooling.holdCondition with
  | .clear, some true => s.setCooling { s.cooling with hold := .timing, holdTimer := 0 }
  | .timing, some false => s.setCooling { s.cooling with hold := .clear, holdTimer := 0 }
  | _, _ => s

/-- The hold latches, and HOLD is set (R155). -/
def State.latchHold (s : State) : State := (s.setCooling { s.cooling with hold := .latched }).setFlag .hold

/-- The hold timer runs in TIMING, except while the defrost is HEATING or DRIPPING (R155). -/
def Cooling.holdTimerRuns (c : Cooling) : Bool :=
  c.hold = .timing && !(c.defrost = .heating || c.defrost = .dripping)

/-! ## Channels -/

/-- The step of the filter from `t` toward the sample `s` (R142). -/
def filterStep (t s : Int) : Int :=
  let d := s - t
  let q := d.tdiv 4
  if q = 0 then (if 0 < d then 1 else if d < 0 then -1 else 0) else q

/-- What a reading made of a channel: whether its status changed, and whether its T_f changed or was seeded. -/
structure ChannelChange where
  channel : Channel
  statusChanged : Bool
  filteredChanged : Bool
deriving DecidableEq, Repr

/-- A valid sample on a channel (R141, R142). -/
def Channel.takeValid (c : Channel) (s : Int) : ChannelChange :=
  let c := { c with lastSample := some (.valid s) }
  match c.status with
  | .ok =>
    let c := { c with faultRun := 0 }
    match c.filtered with
    | none => { channel := { c with filtered := some s }, statusChanged := false, filteredChanged := true }
    | some t =>
      { channel := { c with filtered := some (t + filterStep t s) }, statusChanged := false, filteredChanged := s != t }
  | .fault =>
    if c.validRun + 1 < 3 then
      { channel := { c with validRun := c.validRun + 1 }, statusChanged := false, filteredChanged := false }
    else
      { channel := { c with status := .ok, faultRun := 0, validRun := 0, filtered := some s },
        statusChanged := true, filteredChanged := true }

/-- A fault indication on a channel (R140, R141). -/
def Channel.takeFault (c : Channel) (k : FaultKind) : ChannelChange :=
  let c := { c with lastSample := some (.fault k), lastFault := some k }
  match c.status with
  | .ok =>
    if c.faultRun + 1 < 3 then
      { channel := { c with faultRun := c.faultRun + 1 }, statusChanged := false, filteredChanged := false }
    else
      { channel := { c with status := .fault, faultRun := 0, validRun := 0 },
        statusChanged := true, filteredChanged := false }
  | .fault => { channel := { c with validRun := 0 }, statusChanged := false, filteredChanged := false }

/-- A reading on a channel (R140). -/
def Channel.take (c : Channel) : LastSample → ChannelChange
  | .valid s => c.takeValid s
  | .fault k => c.takeFault k

/-- The fallback cycle begins in its ON phase, with the call on (R145). -/
def State.beginFallback (ev : State → State) (s : State) : State :=
  State.setCall ev true
    (s.setCooling { s.cooling with fallback := some (.on, Timer.start s.cooling.settings.fallbackRunMs) })

/-- A reading on CABINET (R140–R142): a change of status is handed to the thermostat and the hold, a change of T_f
too. At a return from FAULT to OK the status change and the seeding fall in one sample, and R155 gives the hold no order
between them: it is evaluated once, on the new T_f, so a TIMING hold with the new T_f above H keeps its timer whatever
T_f was frozen during the fault (DESIGN CHOICE, log entry 34). -/
def State.sampleCabinet (ev : State → State) (r : LastSample) (s : State) : State :=
  let ch := s.cooling.cabinet.take r
  let s := s.setCooling { s.cooling with cabinet := ch.channel }
  let s := s.setFlagIf (ch.statusChanged && ch.channel.status = .fault) .coolingFault
  if ch.statusChanged then
    match ch.channel.status with
    | .fault => (s.beginFallback ev).evaluateHold
    | .ok => ((s.setCooling { s.cooling with fallback := none }).evaluateThermostat ev).evaluateHold
  else if ch.filteredChanged then (s.evaluateThermostat ev).evaluateHold
  else s

/-- A reading on COIL (R140–R142): a change of T_f is handed to the defrost termination (R152). -/
def State.sampleCoil (ev : State → State) (r : LastSample) (s : State) : State :=
  let ch := s.cooling.coil.take r
  let s := s.setCooling { s.cooling with coil := ch.channel }
  let s := s.setFlagIf (ch.statusChanged && ch.channel.status = .fault) .coolingFault
  if ch.filteredChanged && s.cooling.defrost = .heating && s.cooling.coilWarm then s.heatingEnds ev else s

end Sys2Proof.Machine
end

