-- ==== Sys2Proof/Machine/Planner.lean ====
section
/-! DEFINITION. The Change Planner (R75–R79), a computation over the tube records, and the exact-change evaluation
(R56). -/
namespace Sys2Proof.Machine

/-- A configured tube as a pass sees it: its number, its value and its usable count (R75). -/
structure PlanTube where
  tube : TubeNo
  value : Nat
  usable : Nat
deriving DecidableEq, Repr

/-- Put a tube behind every tube of its own or a higher value: with tubes put in by rising number, this is the planning
order (R75). -/
def insertPlanTube (t : PlanTube) : List PlanTube → List PlanTube
  | [] => [t]
  | u :: us => if u.value < t.value then t :: u :: us else u :: insertPlanTube t us

/-- A tube's usable count: its basis in pass F, its basis less its reserve in pass R (R75). -/
def Tube.usable (t : Tube) (respectReserve : Bool) : Nat := if respectReserve then t.basis - t.reserve else t.basis

/-- The configured tubes in the planning order, with their usable counts in the pass (R75). -/
def TubeTable.planTubes (tt : TubeTable) (respectReserve : Bool) : List PlanTube :=
  (List.finRange 6).foldl
    (fun acc n =>
      let t := tt.tubes[n]
      if t.configured then insertPlanTube { tube := n, value := t.value, usable := t.usable respectReserve } acc
      else acc)
    []

/-- Coins for each tube of a planning order, and what remains unpaid. -/
structure Candidate where
  coins : List Nat
  remaining : Nat
deriving DecidableEq, Repr

/-- The greedy fill (R76). -/
def greedyFill : List PlanTube → Nat → Candidate
  | [], a => { coins := [], remaining := a }
  | t :: ts, a =>
    let n := min (a / t.value) t.usable
    let r := greedyFill ts (a - n * t.value)
    { coins := n :: r.coins, remaining := r.remaining }

/-- The back-off trials of a fill, one for each tube the fill gave a coin, in the planning order (R77): the tubes
before it keep their coins, it has one fewer, and the tubes after it are filled greedily. -/
def backOffTrials : List PlanTube → List Nat → Nat → List Candidate
  | t :: ts, n :: ns, a =>
    let here :=
      if n = 0 then []
      else
        let r := greedyFill ts (a - (n - 1) * t.value)
        [{ coins := (n - 1) :: r.coins, remaining := r.remaining }]
    here ++ (backOffTrials ts ns (a - n * t.value)).map fun c => { c with coins := n :: c.coins }
  | _, _, _ => []

/-- The candidates of a pass in the order they are made: the fill, then its trials (R77). -/
def passCandidates (ts : List PlanTube) (a : Nat) : List Candidate :=
  let f := greedyFill ts a
  f :: (if f.remaining = 0 then [] else backOffTrials ts f.coins a)

/-- The pass's plan: its first exact candidate; none when the pass fails (R77). -/
def passExact (ts : List PlanTube) (a : Nat) : Option Candidate :=
  (passCandidates ts a).find? fun c => c.remaining = 0

/-- The candidate with the smallest remaining, the earliest on a tie (R78). -/
def bestCandidate (best : Candidate) : List Candidate → Candidate
  | [] => best
  | c :: cs => bestCandidate (if c.remaining < best.remaining then c else best) cs

/-- The coins of a candidate, tube by tube. -/
def planVector (ts : List PlanTube) (coins : List Nat) : Vector Nat 6 :=
  (ts.zip coins).foldl (fun v p => v.set p.1.tube p.2) (Vector.replicate 6 0)

/-- The Planner's answer: coins per tube, what remains, and whether reserves were dipped (R75). -/
structure Plan where
  coins : Vector Nat 6
  remaining : Nat
  reserveDipped : Bool
deriving DecidableEq, Repr

/-- The full procedure (R78): pass R, then pass F, then the best candidate of pass F. -/
def TubeTable.fullPlan (tt : TubeTable) (a : Nat) : Plan :=
  let tsR := tt.planTubes true
  match passExact tsR a with
  | some c => { coins := planVector tsR c.coins, remaining := 0, reserveDipped := false }
  | none =>
    let tsF := tt.planTubes false
    match passExact tsF a with
    | some c => { coins := planVector tsF c.coins, remaining := 0, reserveDipped := true }
    | none =>
      let c := bestCandidate (greedyFill tsF a) (passCandidates tsF a)
      { coins := planVector tsF c.coins, remaining := c.remaining, reserveDipped := false }

/-- Whether pass F alone pays an amount exactly (R79): the test of the vend change check and of the probes. -/
def TubeTable.paysExactly (tt : TubeTable) (a : Nat) : Bool := (passExact (tt.planTubes false) a).isSome

/-- A used probe passes when pass F pays its amount exactly (R56). -/
def TubeTable.probePasses (tt : TubeTable) (amount : Nat) : Bool := tt.paysExactly amount

/-- The exact-change state as R56 gives it: on when at least one used probe fails. -/
def TubeTable.exactChangeDue (tt : TubeTable) : Bool :=
  tt.probes.toList.any fun a => a != 0 && !tt.probePasses a

/-- The exact-change evaluation (R56): each change of the state sets EXACT_CHANGE. -/
def State.evaluateExact (s : State) : State :=
  let due := s.tubes.exactChangeDue
  State.setFlagIf (due != s.tubes.exactChange) .exactChange { s with tubes := { s.tubes with exactChange := due } }

end Sys2Proof.Machine
end

