-- ==== Sys2Proof/Machine/TubeOps.lean ====
section
/-! DEFINITION. The Tube Table's shared operations: clamps and the trim (R46–R48), commitments (R44), coins in and out
(R45), the tube fault (R53) and the cassette (R49–R52). -/
namespace Sys2Proof.Machine

/-- Give a tube a new count by a clamp (R47, R48): a count that changes is no longer verified, and committed coins are
lowered to the new count. -/
def Tube.withCount (t : Tube) (n : Nat) : Tube :=
  { t with count := n, verified := t.verified && n = t.count, committed := min t.committed n }

/-- The clamp of the low sensor at its present level (R47); none for a low mark of 0. -/
def Tube.clampLow (t : Tube) : Tube :=
  if t.lowMark = 0 then t
  else if t.lowCovered then t.withCount (max t.count t.lowMark)
  else t.withCount (min t.count (t.lowMark - 1))

/-- The clamp of the full sensor at its present level (R47). -/
def Tube.clampFull (t : Tube) : Tube :=
  if t.fullCovered then t.withCount (min 255 (max t.count t.capacity)) else t

/-- Both clamps, the low sensor first and the full sensor second (R46). -/
def Tube.clampBoth (t : Tube) : Tube := t.clampLow.clampFull

/-- A sensor takes a new level (R46). -/
def Tube.withLevel (t : Tube) (sensor : TubeSensor) (covered : Bool) : Tube :=
  match sensor with
  | .low => { t with lowCovered := covered }
  | .full => { t with fullCovered := covered }

/-- The level a sensor has taken. -/
def Tube.level (t : Tube) : TubeSensor → Bool
  | .low => t.lowCovered
  | .full => t.fullCovered

/-- The clamp that belongs to one sensor. -/
def Tube.clampOf (t : Tube) : TubeSensor → Tube
  | .low => t.clampLow
  | .full => t.clampFull

/-- A coin confirmed into a tube (R45): counted if the tube is ACTIVE or FAULT, bounded at 255. -/
def Tube.coinIn (t : Tube) : Tube := if t.presence = .absent then t else { t with count := min 255 (t.count + 1) }

/-- A coin confirmed out of a tube (R45). -/
def Tube.coinOut (t : Tube) : Tube := { t with count := t.count - 1, committed := t.committed - 1 }

/-- A tube fault (R53): an ACTIVE tube becomes FAULT, and its committed coins 0. -/
def Tube.faulted (t : Tube) : Tube :=
  { t with presence := if t.presence = .active then .fault else t.presence, committed := 0 }

/-- Release every commitment (R44), with the exact-change evaluation that follows it. -/
def State.releaseCommitments (s : State) : State := (s.mapTubes fun t => { t with committed := 0 }).evaluateExact

/-- Each tube's committed coins become the plan's coins from it (R44), with the evaluation that follows. -/
def State.commitPlan (plan : Vector Nat 6) (s : State) : State :=
  State.evaluateExact
    { s with tubes :=
        { s.tubes with tubes := Vector.ofFn fun n : Fin 6 => { s.tubes.tubes[n] with committed := plan[n] } } }

/-- The cassette state that the contacts and the code give (R49). -/
def cassetteStateOf (first second : Bool) (code expected : Nat) : CassetteState :=
  if first && second then (if code = expected then .seated else .mismatch)
  else if first || second then .partlySeated
  else .removed

/-- A tube as a seating with the expected code leaves it: ACTIVE and unverified if configured, then clamped (R51). -/
def Tube.seated (t : Tube) : Tube :=
  if t.configured then ({ t with presence := .active, verified := false } : Tube).clampBoth else t

/-- A tube as a removal leaves it: ABSENT and unverified (R50). -/
def Tube.removed (t : Tube) : Tube := { t with presence := .absent, verified := false }

end Sys2Proof.Machine
end

