-- ==== Sys2Proof/Machine/PayoutOps.lean ====
section
/-! DEFINITION. The Payout Engine (R80–R92). An operation that asks the Budget Arbiter for something is given the
evaluation `ev` that follows (R161). -/
namespace Sys2Proof.Machine

/-- The value of the coins of a plan. -/
def TubeTable.planValue (tt : TubeTable) (plan : Vector Nat 6) : Nat :=
  (List.finRange 6).foldl (fun acc n => acc + plan[n] * tt.tubes[n].value) 0

/-- Whether a plan still holds a coin. -/
def planHoldsCoin (plan : Vector Nat 6) : Bool := plan.toList.any (· != 0)

/-- The unpaid amount (after the table before R80). -/
def Order.unpaid (o : Order) : Nat := o.asked - o.paid

/-- The planned shortfall (table before R80). -/
def Order.plannedShortfall (o : Order) (tt : TubeTable) : Nat := o.asked - o.paid - tt.planValue o.plan

/-- Replace the payout order. -/
def State.setOrder (o : Option Order) (s : State) : State := { s with payout := { s.payout with order := o } }

/-- The first tube in the planning order that a plan takes a coin from (R84). -/
def TubeTable.nextTube (tt : TubeTable) (plan : Vector Nat 6) : Option TubeNo :=
  ((tt.planTubes false).find? fun t => plan[t.tube] != 0).map (·.tube)

/-- Fire the solenoid of a tube for its 30 ms pulse and record the coin awaited with the payout coin limit in force
(R84). A pulse still running in another tube's solenoid runs on, and one in the same solenoid starts again (log entry
32). -/
def State.pulse (o : Order) (t : TubeNo) (retry : Bool) (s : State) : State :=
  { s with payout :=
      { s.payout with
        order := some { o with awaited := some { tube := t, retry := retry, timer := Timer.start s.machine.payoutCoinLimit } }
        solenoids := s.payout.solenoids.set t (some (Timer.start 30)) } }

/-- Change the coin awaited, if there is one. -/
def State.mapAwaited (f : Awaited → Awaited) (s : State) : State :=
  s.setOrder (s.payout.order.map fun o => { o with awaited := o.awaited.map f })

/-- The coin pulsed in the event that confirmed another whose limit was spent: the limit's expiry, which arrived
together with the confirmation, finds its coin confirmed (R86, log entry 31). -/
def State.limitOvertaken (due : Bool) (s : State) : State :=
  if due then s.mapAwaited fun a => { a with timer := { a.timer with overtaken := true } } else s

/-- The coin pulsed in the event of a tube fault whose limit was due: a sensor pulse that arrived together with that
expiry is taken before the pulse (R86, log entry 31). -/
def State.pulsedAfterFault (due : Bool) (s : State) : State :=
  if due then s.mapAwaited fun a => { a with afterFault := true } else s

/-- Pulse the next coin of the order's plan (R84). -/
def State.pulseNext (o : Order) (s : State) : State :=
  match s.tubes.nextTube o.plan with
  | some t => s.pulse o t false
  | none => s.setOrder (some o)

/-- The ordinary cause of an end (R89). -/
def Order.ordinaryCause (o : Order) : PayoutCause := if o.unpaid = 0 then .complete else .short

/-- The Payout Record that the end of an order writes (R93). -/
def Order.recordOf (o : Order) (cause : PayoutCause) : PayoutRecord :=
  { source := o.source, asked := o.asked, paid := o.paid, shortfall := o.unpaid, perTube := o.paidPerTube,
    cause := cause }

/-- Write the Payout Record (R93). -/
def State.setPayoutRecord (r : PayoutRecord) (s : State) : State :=
  { s with payout := { s.payout with record := some r } }

/-- Steps 1 to 6 of the end of an order, and its ceasing to exist (R90). A solenoid pulse still running ends with its
30 ms (log entry 32). -/
def State.finishOrder (ev : State → State) (cause : PayoutCause) (s : State) : State :=
  match s.payout.order with
  | none => s
  | some o =>
    let s := s.setOrder (some { o with state := .ended, awaited := none, budgetWait := none })
    let s := s.releaseCommitments
    let s := s.giveUp ev .payout
    let s := s.setPayoutRecord (o.recordOf cause)
    let s := (s.setFlag .payoutDone).setFlagIf (0 < o.unpaid) .shortPay
    let s := if o.source = .session then s.sessionPayoutEnd else s
    s.setOrder none

/-- A new order goes on: with a coin planned it enters WAIT_GRANT, asks for the PAYOUT grant and starts the budget
wait (R83); with none it ends at once (R81, R82, R89). -/
def State.startOrder (ev : State → State) (o : Order) (s : State) : State :=
  if planHoldsCoin o.plan then
    let s := s.setOrder (some { o with budgetWait := some (Timer.start s.machine.budgetWait) })
    s.request ev .payout s.arbiter.payoutDemand
  else (s.setOrder (some o)).finishOrder ev o.ordinaryCause

/-- Create the SESSION order for the coin credit as it stands (R81). -/
def State.createSessionOrder (ev : State → State) (s : State) : State :=
  let plan := s.tubes.fullPlan s.session.coin
  (s.commitPlan plan.coins).startOrder ev
    { source := .session, asked := s.session.coin, dispensed := none, plan := plan.coins,
      reserveDipped := plan.reserveDipped, paidPerTube := Vector.replicate 6 0, paid := 0, state := .waitGrant,
      awaited := none, replanDue := false, budgetWait := none }

/-- A held session payout is released: its order is created (R80, R90 step 7). -/
def State.releaseHeld (ev : State → State) (s : State) : State :=
  if s.payout.held then State.createSessionOrder ev { s with payout := { s.payout with held := false } } else s

/-- The end of an order, with the creation of a session payout held behind it (R90). -/
def State.endOrder (ev : State → State) (cause : PayoutCause) (s : State) : State :=
  match s.payout.order with
  | none => s
  | some _ => (s.finishOrder ev cause).releaseHeld ev

/-- The plan of a DISPENSE order: the lesser of the coins and the basis, from its tube alone (R82, R88). -/
def TubeTable.dispensePlan (tt : TubeTable) (t : TubeNo) (coins : Nat) : Vector Nat 6 :=
  (Vector.replicate 6 0).set t (min coins tt.tubes[t].basis)

/-- Create a DISPENSE order (R82). -/
def State.createDispenseOrder (ev : State → State) (t : TubeNo) (coins : Nat) (s : State) : State :=
  let plan := s.tubes.dispensePlan t coins
  (s.commitPlan plan).startOrder ev
    { source := .dispense, asked := coins * (s.tube t).value, dispensed := some (t, coins), plan := plan,
      reserveDipped := false, paidPerTube := Vector.replicate 6 0, paid := 0, state := .waitGrant,
      awaited := none, replanDue := false, budgetWait := none }

/-- The new plan of a replan and its reserve-dipped mark (R88 step 2). -/
def Order.newPlan (o : Order) (tt : TubeTable) : Vector Nat 6 × Bool :=
  match o.dispensed with
  | some (t, coins) => (tt.dispensePlan t (coins - o.paidPerTube[t]), false)
  | none =>
    let p := tt.fullPlan o.unpaid
    (p.coins, p.reserveDipped)

/-- A replan (R88): every commitment is released, the unpaid amount is planned and committed again, and the order goes
on in its state or, with no coin planned, ends. -/
def State.replan (ev : State → State) (s : State) : State :=
  match s.payout.order with
  | none => s
  | some o =>
    let s := s.releaseCommitments
    let p := o.newPlan s.tubes
    let s := s.commitPlan p.1
    let o := { o with plan := p.1, reserveDipped := p.2, replanDue := false }
    if planHoldsCoin o.plan then
      match o.state with
      | .paying => s.pulseNext o
      | _ => s.setOrder (some o)
    else (s.setOrder (some o)).endOrder ev o.ordinaryCause

/-- A trim is handed over (R87): the replan is made at once, or when the awaited coin is confirmed or its tube is
faulted. -/
def State.takeTrim (ev : State → State) (s : State) : State :=
  match s.payout.order with
  | none => s
  | some o =>
    if o.awaited.isSome then s.setOrder (some { o with replanDue := true }) else s.replan ev

/-- The PAYOUT grant is given: the budget wait stops, the order enters PAYING and the first coin is pulsed (R83). -/
def State.payoutGranted (s : State) : State :=
  match s.payout.order with
  | none => s
  | some o =>
    match o.state with
    | .waitGrant => s.pulseNext { o with state := .paying, budgetWait := none }
    | _ => s

/-- The order as the confirmation of its awaited coin from a tube of the given value leaves it (R85). -/
def Order.confirmed (o : Order) (t : TubeNo) (value : Nat) : Order :=
  { o with
    paidPerTube := o.paidPerTube.set t (o.paidPerTube[t] + 1)
    paid := o.paid + value
    plan := o.plan.set t (o.plan[t] - 1)
    awaited := none }

/-- A payout sensor pulse (R84, R85): it confirms the coin awaited; with none awaited it is ignored, and so is one that
arrived together with the fault of a tube before that pulse (R86). -/
def State.confirmPayout (ev : State → State) (s : State) : State :=
  match s.payout.order with
  | none => s
  | some o =>
    match o.awaited with
    | none => s
    | some a =>
      if a.afterFault then s
      else
        let value := (s.tube a.tube).value
        let s := s.setTube a.tube (s.tube a.tube).coinOut
        let o := o.confirmed a.tube value
        let s := if o.source = .session then s.payCoinCredit value else s
        let s := (s.setOrder (some o)).evaluateExact
        State.limitOvertaken a.timer.spent
          (if o.replanDue then s.replan ev
           else if planHoldsCoin o.plan then s.pulseNext o
           else s.endOrder ev o.ordinaryCause)

/-- The payout coin limit expires (R86): a retry pulse after the first pulse, a tube fault and a replan after the
retry. The expiry of a coin confirmed in the same instant finds it confirmed. -/
def State.payoutLimit (ev : State → State) (s : State) : State :=
  match s.payout.order with
  | none => s
  | some o =>
    match o.awaited with
    | none => s
    | some a =>
      if a.timer.overtaken then s
      else if a.retry then
        let s := ((s.setTube a.tube (s.tube a.tube).faulted).setFlag .tubeFault).evaluateExact
        let o := { o with plan := o.plan.set a.tube 0, awaited := none }
        ((s.setOrder (some o)).replan ev).pulsedAfterFault a.timer.isDue
      else s.pulse o a.tube true

end Sys2Proof.Machine
end

