-- ==== Sys2Proof/Machine/SessionOps.lean ====
section
/-! DEFINITION. The Session Controller's moves that reach the Payout Engine (R106–R111). -/
namespace Sys2Proof.Machine

/-- Ask for a SESSION payout (R110): the session becomes PAYING; the order is created at once, or held while an order
exists (R80). -/
def State.askPayout (ev : State → State) (s : State) : State :=
  let s := { s with session := { s.session with state := .paying, timer := none } }
  if s.payout.order.isSome then { s with payout := { s.payout with held := true } } else s.createSessionOrder ev

/-- Pay the coin credit as change, or go IDLE when there is none (R107, R109). -/
def State.payOrIdle (ev : State → State) (s : State) : State :=
  if 0 < s.session.coin then s.askPayout ev else s.idleSession

/-- A CANCEL acted on as in OPEN (R109): a settlement, then a payout of any coin credit, or IDLE. A vend accepted in
IDLE makes no settlement (R103). -/
def State.actCancel (ev : State → State) (fromIdle : Bool) (s : State) : State :=
  (if fromIdle then s else s.settle).payOrIdle ev

/-- Cancel pending becomes no. -/
def State.clearCancel (s : State) : State := { s with session := { s.session with cancelPending := false } }

/-- A pending cancel is acted on; otherwise the session is OPEN with credit left and IDLE with none (R106, R108). -/
def State.cancelOrStay (ev : State → State) (fromIdle : Bool) (s : State) : State :=
  if s.session.cancelPending then s.clearCancel.actCancel ev fromIdle else s.openOrIdle

/-- The end of a customer vend, handed to the Session Controller with its outcome (R106, R107, R108). -/
def State.sessionVendEnd (ev : State → State) (outcome : VendOutcome) (fromIdle : Bool) (s : State) : State :=
  match outcome with
  | .vended =>
    match s.machine.vendMode with
    | .single => s.clearCancel.actCancel ev fromIdle
    | .multi => s.cancelOrStay ev fromIdle
  | .failed => s.returnEscrow.cancelOrStay ev fromIdle
  | .aborted => s.returnEscrow.cancelOrStay ev fromIdle

/-- The session timeout expires (R112): the timer stops, cashless credit is settled, and the session becomes IDLE if no
coin credit remains. -/
def State.sessionTimeout (s : State) : State :=
  let s := { s with session := { s.session with timer := none } }
  let s := if 0 < s.session.cashless then s.settle else s
  if s.session.coin = 0 then s.idleSession else s

end Sys2Proof.Machine
end

