-- ==== Sys2Proof/Machine/VendOps.lean ====
section
/-! DEFINITION. The Drive Matrix (R23–R40) and the Vend Engine (R115–R139), which calls it and acts on its reports. An
operation that asks the Budget Arbiter for something is given the evaluation `ev` that follows (R161). -/
namespace Sys2Proof.Machine

/-- Replace the vend context. -/
def State.setVend (c : Option VendContext) (s : State) : State := { s with vend := { s.vend with context := c } }

/-! ## The end of an operation -/

/-- The Vend Result Record written from a context (R134). -/
def VendContext.resultOf (c : VendContext) (outcome : VendOutcome) (reason : Option VendReason) : VendResult :=
  { kind := c.kind, code := c.code, chosen := c.chosen, vended := c.dropSeen, outcome := outcome, reason := reason,
    price := c.price, turnsMade := c.turnsMade, availBounces := c.availBounces, driveBounces := c.driveBounces }

/-- The end of an operation (R133): the engaged marks go with the context, the VEND grant is released or its request
withdrawn, the record is written, VEND_DONE is set, and a VEND's end is handed to the Session Controller. -/
def State.endVend (ev : State → State) (outcome : VendOutcome) (reason : Option VendReason) (s : State) : State :=
  match s.vend.context with
  | none => s
  | some c =>
    let s := (s.setVend none).giveUp ev .vend
    let s := State.setFlag .vendDone { s with vend := { s.vend with result := some (c.resultOf outcome reason) } }
    if c.kind = .vend then s.sessionVendEnd ev outcome c.fromIdle else s

/-- End VENDED when a drop has been seen, and with the given outcome and reason otherwise. -/
def State.endVendUnlessDrop (ev : State → State) (outcome : VendOutcome) (reason : VendReason) (s : State) : State :=
  match s.vend.context with
  | none => s
  | some c => if c.dropSeen.isSome then s.endVend ev .vended none else s.endVend ev outcome (some reason)

/-! ## Supply aborts -/

/-- The drop window left open from a stop: it closes T_drop later, unless its closing time is fixed already (R127). -/
def DropWindow.closeAfter (tDrop : Nat) : DropWindow → DropWindow
  | .opened none => .opened (some (Timer.start tDrop))
  | w => w

/-- Whether the drop window is open. -/
def DropWindow.isOpen : DropWindow → Bool
  | .opened _ => true
  | .closed => false

/-- A supply event reaches the Vend Engine, from the Drive Matrix or from the Budget Arbiter (R135): the second of the
two finds supply aborted set. With no window open the operation ends at once; a HOME_LANE ends at its stop (R139). -/
def State.abortVend (ev : State → State) (s : State) : State :=
  match s.vend.context with
  | none => s
  | some c =>
    if c.supplyAborted then s
    else
      let driven := c.phase = .homing || c.phase = .turning
      let s := if driven then s.positionReport c.current .offHome else s
      let c := { c with supplyAborted := true, limitCause := none, tStart := none, tCycle := none, runTime := none }
      if c.dropSeen.isSome || c.kind = .homeLane || !c.window.isOpen then
        (s.setVend (some c)).endVendUnlessDrop ev .aborted .supply
      else s.setVend (some { c with phase := .afterStop, window := c.window.closeAfter c.inForce.tDrop })

/-! ## Switching a lane on -/

/-- The drive context a switch-on begins with (R26). -/
def FittedLane.driveContext (f : FittedLane) (l : LaneNo) : DriveContext :=
  { lane := l, duty := f.duty, stallThreshold := stallThresholdOf f.demand,
    stopCondition := if f.motor.isHomed then .atHome else .commanded, current := .normal, homeLevel := none,
    homeOpened := false, openCheckPassed := false, stallDebounce := none }

/-- What the Vend Engine makes of STARTED (R123): motion has begun, the window opens if it is CLOSED and drop sensing
is ON (R127, R129), the limits of the run start, and a turn is counted. -/
def VendContext.started (c : VendContext) (homing : Bool) (m : Motor) : VendContext :=
  { c with
    motionBegun := true
    phase := if homing then .homing else .turning
    window := if c.inForce.dropSensing && !c.window.isOpen then .opened none else c.window
    turnsMade := if homing then c.turnsMade else c.turnsMade + 1
    limitCause := none
    tStart := if !homing && m.isHomed then some (Timer.start c.inForce.tStart) else none
    tCycle := if homing || m.isHomed then some (Timer.start c.inForce.tCycle) else none
    runTime :=
      match m with
      | .timed r => if homing then none else some (Timer.start r)
      | .homed _ => none }

/-- A switch-on command for the current lane (R25, R26): carried out while the VEND entry is GRANTED and the supply
condition absent, and refused with ABORT otherwise. -/
def State.switchOn (ev : State → State) (homing : Bool) (s : State) : State :=
  match s.vend.context with
  | none => s
  | some c =>
    match s.lane c.current with
    | none => s
    | some f =>
      if s.arbiter.table.vend.isGranted && !s.supplyCondition then
        State.setVend (some (c.started homing f.motor))
          { s with drive := { context := some (f.driveContext c.current), marker := some c.current } }
      else (s.setVend (some { c with phase := if c.phase = .waitGrant then .waitGrant else .afterStop })).abortVend ev

/-! ## Leaving a lane -/

/-- The lanes of the chain after a lane (R132). -/
def lanesAfter (l : LaneNo) (chain : List LaneNo) : List LaneNo := (chain.dropWhile (· != l)).drop 1

/-- The first available lane of a list, with the unavailable lanes passed over before it (R119, R132). -/
def State.firstAvailable (s : State) : List LaneNo → Nat × Option LaneNo
  | [] => (0, none)
  | l :: ls =>
    match s.unavailable l with
    | none => (0, some l)
    | some _ =>
      let r := s.firstAvailable ls
      (r.1 + 1, r.2)

/-- The reason that a leave cause gives by itself. -/
def LeaveCause.reason : LeaveCause → VendReason
  | .empty => .empty
  | .drive => .drive
  | .held => .held

/-- The reason of a FAILED end when no lane is found (R132): HELD when lanes remained and every one was unavailable
with reason HELD, and the leave cause otherwise. -/
def State.failReason (s : State) (later : List LaneNo) (cause : LeaveCause) : VendReason :=
  if !later.isEmpty && later.all (fun l => s.unavailable l = some .held) then .held else cause.reason

/-- Whether the first run on a lane is a homing run (R123, R139). -/
def VendContext.firstRunHomes (c : VendContext) (f : FittedLane) : Bool :=
  c.kind = .homeLane || f.motor = .homed .offHome

/-- Start the first run on the current lane, found available in the same event (R132). -/
def State.startOnNewLane (ev : State → State) (s : State) : State :=
  match s.vend.context with
  | none => s
  | some c =>
    match s.lane c.current with
    | none => s
    | some f => s.switchOn ev (c.firstRunHomes f)

/-- The current lane is left (R132), with its leave cause set and no window on it open. -/
def State.leaveLane (ev : State → State) (cause : LeaveCause) (s : State) : State :=
  match s.vend.context with
  | none => s
  | some c =>
    if c.motionBegun && c.driveBounceUsed then
      (s.setVend (some { c with leaveCause := some cause, window := .closed })).endVend ev .failed (some cause.reason)
    else
      let later := lanesAfter c.current c.chain
      let found := s.firstAvailable later
      let own := if c.motionBegun then 0 else 1
      let c := { c with availBounces := c.availBounces + own + found.1, window := .closed }
      match found.2 with
      | none =>
        (s.setVend (some { c with leaveCause := some cause })).endVend ev .failed (some (s.failReason later cause))
      | some l =>
        let c := { c with current := l, retriesLeft := c.inForce.retries, leaveCause := none }
        let c := if c.motionBegun then { c with driveBounceUsed := true, driveBounces := 1 } else c
        (s.setVend (some c)).startOnNewLane ev

/-- Leave the lane once its window has closed: at T_drop after the stop with a window open (R127), at once with none. -/
def State.leaveAfterWindow (ev : State → State) (cause : LeaveCause) (s : State) : State :=
  match s.vend.context with
  | none => s
  | some c =>
    if c.window.isOpen then
      s.setVend (some { c with leaveCause := some cause, phase := .afterStop, window := c.window.closeAfter c.inForce.tDrop })
    else s.leaveLane ev cause

/-- Start a run on the current lane (R123): not on a CHILLED lane while the hold is LATCHED. -/
def State.startRun (ev : State → State) (homing : Bool) (s : State) : State :=
  match s.vend.context with
  | none => s
  | some c =>
    match s.lane c.current with
    | none => s
    | some f => if s.laneHeld f then s.leaveAfterWindow ev .held else s.switchOn ev homing

/-- The VEND grant is given (R122): the budget wait stops and the first run on the current lane is started. -/
def State.vendGranted (ev : State → State) (s : State) : State :=
  match s.vend.context with
  | none => s
  | some c =>
    match c.phase with
    | .waitGrant =>
      match s.lane c.current with
      | none => s
      | some f => (s.setVend (some { c with budgetWait := none })).startRun ev (c.firstRunHomes f)
    | _ => s

/-! ## The drop -/

/-- A drop is recorded for the current lane (R128): the drop report, and for a VEND the settlement of its escrow. -/
def State.recordDrop (s : State) : State :=
  match s.vend.context with
  | none => s
  | some c =>
    let s := (s.setVend (some { c with dropSeen := some c.current })).dropReport c.current
    if c.kind = .vend then s.sellEscrow else s

/-- A drop at the drop sensor (R128): ignored with no window open or a drop already seen, and when it arrived together
with the close of the window before this one. With no lane driven the operation ends at once. -/
def State.dropSensed (ev : State → State) (s : State) : State :=
  match s.vend.context with
  | none => s
  | some c =>
    if c.window.isOpen && c.dropSeen.isNone && !c.afterClose then
      let s := s.recordDrop
      if c.phase = .afterStop then s.endVend ev .vended none else s
    else s

/-! ## Stops -/

/-- A turn completed normally (R125, R126): with drop sensing OFF it counts as the drop (R129). -/
def State.turnCompleted (ev : State → State) (s : State) : State :=
  match s.vend.context with
  | none => s
  | some c =>
    if c.dropSeen.isSome then s.endVend ev .vended none
    else if !c.inForce.dropSensing then s.recordDrop.endVend ev .vended none
    else s.setVend (some { c with phase := .afterStop, window := c.window.closeAfter c.inForce.tDrop })

/-- A drive failure (R131), or the current fault of a HOME_LANE (R139). -/
def State.driveFailure (ev : State → State) (cause : FaultCause) (s : State) : State :=
  match s.vend.context with
  | none => s
  | some c =>
    let s := (s.setVend (some { c with limitCause := none })).driveFaultReport c.current cause
    if c.dropSeen.isSome || c.kind = .homeLane then s.endVendUnlessDrop ev .failed .drive
    else s.leaveAfterWindow ev .drive

/-- The cause a limit records (R131). -/
def LimitCause.fault : LimitCause → FaultCause
  | .noStart => .noStart
  | .jam => .jam

/-- Causes of a STOPPED report (table before R30). -/
inductive StopCause where
  | atHome
  | commanded
  | stall
  | openCircuit
  | abort
deriving DecidableEq, Repr

/-- STOPPED, AT_HOME (R124, R125, R139): the position is HOME; a homing run is followed by the first turn. -/
def State.stoppedAtHome (ev : State → State) (s : State) : State :=
  match s.vend.context with
  | none => s
  | some c =>
    let s := (s.setVend (some { c with limitCause := none })).positionReport c.current .home
    if c.kind = .homeLane then s.endVend ev .vended none
    else
      match c.phase with
      | .homing => if c.dropSeen.isSome then s.endVend ev .vended none else s.startRun ev false
      | _ => s.turnCompleted ev

/-- STOPPED, COMMANDED (R125, R126, R139): a drive failure when a limit cause is set, the end of a HOME_LANE's run
without a fault, and otherwise the completion of a TIMED turn. -/
def State.stoppedCommanded (ev : State → State) (s : State) : State :=
  match s.vend.context with
  | none => s
  | some c =>
    match c.limitCause with
    | some l => s.driveFailure ev l.fault
    | none =>
      if c.kind = .homeLane then (s.positionReport c.current .offHome).endVendUnlessDrop ev .failed .drive
      else s.turnCompleted ev

/-- The limits of a run started in the event that ended the run of `c`: the expiry of a limit of that run, which
arrived together with its end, is ignored (R35, log entry 31). -/
def VendContext.limitsOver (c d : VendContext) : VendContext :=
  { d with
    tStart := d.tStart.map (Timer.replacing c.tStart), tCycle := d.tCycle.map (Timer.replacing c.tCycle),
    runTime := d.runTime.map (Timer.replacing c.runTime) }

/-- The Vend Engine takes a STOPPED report: the limits of the run stop, and the cause decides (R124–R126, R139). -/
def State.stopped (ev : State → State) (cause : StopCause) (s : State) : State :=
  match s.vend.context with
  | none => s
  | some c =>
    let s := s.setVend (some { c with tStart := none, tCycle := none, runTime := none })
    let s :=
      match cause with
      | .atHome => s.stoppedAtHome ev
      | .commanded => s.stoppedCommanded ev
      | .stall => s.driveFailure ev .stall
      | .openCircuit => s.driveFailure ev .openCircuit
      | .abort => s.abortVend ev
    s.setVend (s.vend.context.map c.limitsOver)

/-- Whether the next CLOSED level of a drive would be its closed edge (R29). -/
def DriveContext.edgeComes (d : DriveContext) : Bool :=
  d.stopCondition = .atHome && d.homeOpened && d.homeLevel = some .opened

/-- A drive `e` that began in the event that ended the drive `d`: a closed edge or an open check of `d` that arrived
together with that end is not seen, or not made (R35, log entry 31). -/
def DriveContext.endsOver (d e : DriveContext) : DriveContext :=
  { e with edgeOver := d.edgeComes, checkOver := !d.openCheckPassed }

/-- Change the drive context, if a lane is driven. -/
def State.mapDrive (f : DriveContext → DriveContext) (s : State) : State :=
  { s with drive := { s.drive with context := s.drive.context.map f } }

/-- A switch-off (R31): the switches turn off, the context empties, the driving marker is cleared, and STOPPED is
reported. With the context empty it is ignored (R30, R35). -/
def State.switchOff (ev : State → State) (cause : StopCause) (s : State) : State :=
  match s.drive.context with
  | none => s
  | some d => (State.stopped ev cause { s with drive := { context := none, marker := none } }).mapDrive d.endsOver

/-! ## The home switch -/

/-- HOME_OPENED reaches the Vend Engine: taken before T_start expires it stops T_start (R125). -/
def State.homeOpened (s : State) : State :=
  match s.vend.context with
  | none => s
  | some c => s.setVend (some { c with tStart := none })

/-- A level is taken into the home level (R28, R29). The first level of a drive is its start level. For a HOMED lane an
OPEN level reports HOME_OPENED once, and a CLOSED level after it is the closed edge, which switches the lane off. -/
def State.takeHomeLevel (ev : State → State) (level : HomeLevel) (s : State) : State :=
  match s.drive.context with
  | none => s
  | some d =>
    if d.homeLevel = some level then s
    else
      let d := { d with homeLevel := some level }
      let s := { s with drive := { s.drive with context := some d } }
      match d.stopCondition, level with
      | .commanded, _ => s
      | .atHome, .opened =>
        if d.homeOpened then s
        else State.homeOpened { s with drive := { s.drive with context := some { d with homeOpened := true } } }
      | .atHome, .closed => if d.homeOpened then s.switchOff ev .atHome else s

/-! ## The window's close -/

/-- What follows the close of the window of `c` with no drop seen (R130, R135). -/
def State.afterWindow (ev : State → State) (c : VendContext) (s : State) : State :=
  let s := s.setVend (some { c with window := .closed })
  if c.supplyAborted then s.endVendUnlessDrop ev .aborted .supply
  else
    match c.leaveCause with
    | some cause => s.leaveLane ev cause
    | none =>
      if 0 < c.retriesLeft then
        (s.setVend (some { c with window := .closed, retriesLeft := c.retriesLeft - 1 })).startRun ev false
      else (s.emptyReport c.current).leaveLane ev .empty

/-- The context that the close of a window leaves: when the close was due, a drop that arrived together with it is
ignored, though a run that it started has opened a fresh window (R128, log entry 31). -/
def VendContext.closedOver (due : Bool) (c : VendContext) : VendContext := { c with afterClose := c.afterClose || due }

/-- The drop window closes with no drop seen (R127, R130, R135). -/
def State.windowCloses (ev : State → State) (s : State) : State :=
  match s.vend.context with
  | none => s
  | some c =>
    match c.window with
    | .opened (some t) =>
      let s := s.afterWindow ev c
      s.setVend (s.vend.context.map (VendContext.closedOver t.isDue))
    | _ => s

end Sys2Proof.Machine
end

