-- ==== Sys2Proof/Machine/Evaluate.lean ====
section
/-! DEFINITION. The evaluation of the Budget Arbiter (R161, R163): grants, the owners told, and the yields. An owner's
act on its grant or yield may make a further evaluation within the same event. -/
namespace Sys2Proof.Machine

/-- The owner of an entry granted is told and acts on the grant (R161). -/
def State.tellGranted (ev : State → State) (s : State) : Consumer → State
  | .payout => s.payoutGranted
  | .vend => s.vendGranted ev
  | .compressor => s.compressorGranted
  | .defrost => s.defrostGranted ev

/-- The owners of a list of granted entries are told in order. -/
def State.tellAll (ev : State → State) : List Consumer → State → State
  | [], s => s
  | c :: cs, s => State.tellAll ev cs (s.tellGranted ev c)

/-- The grants of one evaluation of this state (R161). -/
def State.grants (s : State) : GrantTable × List Consumer :=
  grantPass s.arbiter.fair (s.arbiter.releaseMode = .ror) s.arbiter.limit priorityOrder s.arbiter.table

/-- The yields of an evaluation that ended with the table `g` (R163): under ROR, with the VEND entry WAITING and
unfitted, one to each of COMPRESSOR and DEFROST that is GRANTED. -/
def State.sendYields (ev : State → State) (g : GrantTable) (s : State) : State :=
  if s.arbiter.releaseMode = .ror && g.vendUnfit s.arbiter.limit then
    let s := if g.compressor.isGranted then s.yieldCompressor ev else s
    if g.defrost.isGranted then s.yieldDefrost ev else s
  else s

/-- One evaluation (R161, R163), with `ev` the evaluations that the owners' acts make. While the supply condition is
present, or after a power-fail warning, it grants nothing and sends no yield. The grants come first, then the owners
are told, then the yields are sent (log entry 11). -/
def State.evaluateOnce (ev : State → State) (s : State) : State :=
  if s.supplyCondition || !s.isRunning then s
  else
    let r := s.grants
    let s := { s with arbiter := { s.arbiter with table := r.1 } }
    (s.tellAll ev r.2).sendYields ev r.1

/-- Evaluations within evaluations, at most `n` deep. -/
def State.evaluateDepth : Nat → State → State
  | 0, s => s
  | n + 1, s => s.evaluateOnce (State.evaluateDepth n)

/-- An evaluation of the Budget Arbiter (R161). The depth is a bound that no event reaches (log entry 11). -/
def State.evaluate (s : State) : State := s.evaluateDepth 32

end Sys2Proof.Machine
end

