-- ==== Sys2Proof/Machine/Image.lean ====
section
/-! DEFINITION. The stored image (R192, R193): the serial memory, the image's bytes, what makes an image valid, and how
a valid image is applied. -/
namespace Sys2Proof.Machine

/-! ## The serial memory -/

/-- What an unlisted address of the serial memory reads: the erased byte (R192, log entry 17). -/
def Memory.erased : Byte := 0xFF#8

/-- The byte at an address. -/
def Memory.read (m : List Host.Cell) (a : Nat) : Byte :=
  match m.find? fun c => c.1 = a with
  | some c => c.2
  | none => Memory.erased

/-- The canonical form: addresses strictly rising, and no listed byte erased. -/
def Memory.wf : List Host.Cell → Bool
  | [] => true
  | [c] => c.2 != Memory.erased
  | c :: d :: m => decide (c.1 < d.1) && c.2 != Memory.erased && Memory.wf (d :: m)

/-- The cells of a block of bytes from an address, the erased ones left out. -/
def Memory.cells : Nat → List Byte → List Host.Cell
  | _, [] => []
  | a, b :: bs => if b = Memory.erased then Memory.cells (a + 1) bs else (a, b) :: Memory.cells (a + 1) bs

/-- Write a block of bytes from address 0. -/
def Memory.writeBlock (bs : List Byte) (m : List Host.Cell) : List Host.Cell :=
  Memory.cells 0 bs ++ m.filter fun c => decide (bs.length ≤ c.1)

/-- The `n` bytes from address `a`, of a memory in canonical form whose cells all lie at or above `a`. -/
def Memory.readBlock : Nat → Nat → List Host.Cell → List Byte
  | 0, _, _ => []
  | n + 1, a, [] => Memory.erased :: Memory.readBlock n (a + 1) []
  | n + 1, a, c :: m =>
    if c.1 = a then c.2 :: Memory.readBlock n (a + 1) m else Memory.erased :: Memory.readBlock n (a + 1) (c :: m)

/-! ## The image as its items -/

/-- A lane's item: its fitted byte, and what follows it. -/
structure ImageLane where
  fitted : Byte
  params : LaneParams
  alternate : Byte
deriving DecidableEq, Repr

/-- The image's items between the header and the sum, in order (R192). -/
structure Image where
  lanes : List ImageLane
  windows : List WindowParams
  coins : List CoinParams
  tubes : List TubeParams
  machine : MachineParams
  cooling : CoolingParams
  budget : BudgetParams
  acceptance : Byte
  wake : WakeParams
  probes : ProbeParams
deriving DecidableEq, Repr

/-- The length of the image in bytes, from the item sizes of R192. -/
def imageLength : Nat := 2 + 80 * 13 + 8 * 6 + 16 * 5 + 6 * 5 + 19 + 18 + 7 + 1 + 3 + 8 + 2

/-- The 13 bytes of a lane (R192): the alternate stands between the run time and the demand. -/
def ImageLane.bytes (l : ImageLane) : List Byte :=
  let p := l.params
  [l.fitted, hiByte p.price, loByte p.price, p.stockMode, p.capacity, p.laneClass, p.motorKind, hiByte p.runTime,
    loByte p.runTime, l.alternate, p.demand, hiByte p.duty, loByte p.duty]

/-- A lane from its 13 bytes. -/
def ImageLane.ofBytes : List Byte → Option ImageLane
  | [f, p1, p0, mode, cap, cls, kind, r1, r0, alt, dem, d1, d0] =>
    some
      { fitted := f
        params :=
          { price := half p1 p0, stockMode := mode, capacity := cap, laneClass := cls, motorKind := kind,
            runTime := half r1 r0, demand := dem, duty := half d1 d0 }
        alternate := alt }
  | _ => none

/-- The bytes of the items, one after another with no gap (R192). -/
def Image.body (i : Image) : List Byte :=
  i.lanes.flatMap ImageLane.bytes ++ i.windows.flatMap WindowParams.bytes ++ i.coins.flatMap CoinParams.bytes
    ++ i.tubes.flatMap TubeParams.bytes ++ i.machine.bytes ++ i.cooling.bytes ++ i.budget.bytes ++ [i.acceptance]
    ++ i.wake.bytes ++ i.probes.bytes

/-- The sum of bytes, modulo 65536 (R193). -/
def byteSum : List Byte → Half
  | [] => 0#16
  | b :: bs => b.setWidth 16 + byteSum bs

/-- The image marker and the format number (R192). -/
def imageHeader : List Byte := [0xA5#8, 0x01#8]

/-- The whole image: header, items, sum (R192). -/
def Image.bytes (i : Image) : List Byte :=
  let body := imageHeader ++ i.body
  body ++ halfBytes (byteSum body)

/-- Take `n` items of `k` bytes each from the front of a list of bytes. -/
def takeItems {α : Type} (ofBytes : List Byte → Option α) (k : Nat) : Nat → List Byte → Option (List α × List Byte)
  | 0, bs => some ([], bs)
  | n + 1, bs =>
    match ofBytes (bs.take k), takeItems ofBytes k n (bs.drop k) with
    | some x, some r => some (x :: r.1, r.2)
    | _, _ => none

/-- Take one item of `k` bytes. -/
def takeItem {α : Type} (ofBytes : List Byte → Option α) (k : Nat) (bs : List Byte) : Option (α × List Byte) :=
  (ofBytes (bs.take k)).map fun x => (x, bs.drop k)

/-- One byte as an item. -/
def byteOfBytes : List Byte → Option Byte
  | [b] => some b
  | _ => none

/-- The items of an image from its bytes after the header, and what stands after them. -/
def Image.ofBody (bs : List Byte) : Option (Image × List Byte) :=
  (takeItems ImageLane.ofBytes 13 80 bs).bind fun lanes =>
  (takeItems WindowParams.ofBytes 6 8 lanes.2).bind fun windows =>
  (takeItems CoinParams.ofBytes 5 16 windows.2).bind fun coins =>
  (takeItems TubeParams.ofBytes 5 6 coins.2).bind fun tubes =>
  (takeItem MachineParams.ofBytes 19 tubes.2).bind fun machine =>
  (takeItem CoolingParams.ofBytes 18 machine.2).bind fun cooling =>
  (takeItem BudgetParams.ofBytes 7 cooling.2).bind fun budget =>
  (takeItem byteOfBytes 1 budget.2).bind fun acceptance =>
  (takeItem WakeParams.ofBytes 3 acceptance.2).bind fun wake =>
  (takeItem ProbeParams.ofBytes 8 wake.2).map fun probes =>
    ({ lanes := lanes.1, windows := windows.1, coins := coins.1, tubes := tubes.1, machine := machine.1,
       cooling := cooling.1, budget := budget.1, acceptance := acceptance.1, wake := wake.1, probes := probes.1 },
      probes.2)

/-! ## Validity (R193) -/

/-- Every enumerated field of a lane's item names one of its choices: stock mode, class, motor kind, and the choice
between a lane and none of the alternate (R15), which a byte of 80 to 254 names neither of. That the fitted byte is
enumerated, with the choices 0 and 1 of R192, and that the bytes after it are no fields of an unfitted lane, is log entry
18. -/
def ImageLane.enumerated (l : ImageLane) : Bool :=
  match choice2 l.fitted with
  | none => false
  | some false => true
  | some true => (laneConfigOf l.params).isSome && (laneOrNone l.alternate).isSome

/-- Every enumerated field of the image names one of its choices. That the acceptance byte is one and the yes or no bytes
of the wake sources, windows and coin types are none is log entry 18. -/
def Image.enumerated (i : Image) : Bool :=
  i.lanes.all ImageLane.enumerated && (machineSettingsOf i.machine).isSome && (coolingSettingsOf i.cooling).isSome
    && (budgetConfigOf i.budget).isSome && (choice2 i.acceptance).isSome

/-- The image that bytes hold, when it is valid (R193): header, sum and enumerated fields. -/
def Image.ofBytes (bs : List Byte) : Option Image :=
  if bs.take 2 = imageHeader ∧ bs.length = imageLength ∧
      bs.drop (imageLength - 2) = halfBytes (byteSum (bs.take (imageLength - 2))) then
    match Image.ofBody (bs.drop 2) with
    | some (i, _) => if i.enumerated then some i else none
    | none => none
  else none

/-! ## The image of the part's configuration (R194) -/

/-- A number in a two-byte field. -/
def halfOf (n : Nat) : Half := BitVec.ofNat 16 n

/-- A number in a one-byte field. -/
def byteOf (n : Nat) : Byte := BitVec.ofNat 8 n

/-- A yes or no field, or one of two choices. -/
def byteOfBool (b : Bool) : Byte := if b then 0x01#8 else 0x00#8

/-- A lane number, or 0xFF for none (R181). -/
def laneByte : Option LaneNo → Byte
  | some l => byteOf l.val
  | none => 0xFF#8

/-- A capacity, 0 for an UNCOUNTED lane, which holds none (log entry 18). -/
def Stock.capacity : Stock → Nat
  | .counted _ c => c
  | .uncounted _ => 0

/-- Whether the stock mode is COUNTED. -/
def Stock.isCounted : Stock → Bool
  | .counted _ _ => true
  | .uncounted _ => false

/-- A run time, 0 for a HOMED lane, which holds none (log entry 18). -/
def Motor.runTime : Motor → Nat
  | .homed _ => 0
  | .timed r => r

/-- The configuration fields of a fitted lane as SET_LANE carries them. -/
def FittedLane.params (f : FittedLane) : LaneParams :=
  { price := halfOf f.price, stockMode := byteOfBool !f.stock.isCounted, capacity := byteOf f.stock.capacity,
    laneClass := byteOfBool (f.laneClass = .chilled), motorKind := byteOfBool !f.motor.isHomed,
    runTime := halfOf f.motor.runTime, demand := byteOf f.demand, duty := halfOf f.duty }

/-- The item of a lane; the bytes after the fitted byte of an UNFITTED lane are all 0 (R192). -/
def imageLaneOf : LaneRecord → ImageLane
  | some f => { fitted := 0x01#8, params := f.params, alternate := laneByte f.alternate }
  | none =>
    { fitted := 0x00#8
      params :=
        { price := 0#16, stockMode := 0#8, capacity := 0#8, laneClass := 0#8, motorKind := 0#8, runTime := 0#16,
          demand := 0#8, duty := 0#16 }
      alternate := 0#8 }

/-- A window as SET_WINDOW carries it. -/
def Window.params (w : Window) : WindowParams :=
  { firstCode := halfOf w.firstCode, lastCode := halfOf w.lastCode, baseLane := byteOf w.baseLane.val,
    enabled := byteOfBool w.enabled }

/-- A coin type as SET_COIN_TYPE carries it. -/
def CoinEntry.params (e : CoinEntry) : CoinParams :=
  { value := halfOf e.value, destination := byteOf e.destination.code, inhibit := byteOfBool e.inhibit,
    changeDependent := byteOfBool e.changeDependent }

/-- A tube's configuration as SET_TUBE carries it. -/
def Tube.params (t : Tube) : TubeParams :=
  { value := halfOf t.value, capacity := byteOf t.capacity, lowMark := byteOf t.lowMark, reserve := byteOf t.reserve }

/-- The machine settings as SET_MACHINE carries them. -/
def MachineSettings.params (m : MachineSettings) : MachineParams :=
  { tStart := halfOf m.tStart, tCycle := halfOf m.tCycle, tDrop := halfOf m.tDrop, retries := byteOf m.retries,
    dropSensing := byteOfBool m.dropSensing, budgetWait := halfOf m.budgetWait, transitLimit := halfOf m.transitLimit,
    payoutCoinLimit := halfOf m.payoutCoinLimit, vendMode := byteOfBool (m.vendMode = .multi),
    creditCeiling := halfOf m.creditCeiling, sessionTimeout := byteOf m.sessionTimeout,
    expectedCode := byteOf m.expectedCode }

/-- The cooling settings as SET_COOLING carries them. -/
def CoolingSettings.params (c : CoolingSettings) : CoolingParams :=
  { setpoint := BitVec.ofInt 16 c.setpoint, differential := byteOf c.differential, setback := byteOf c.setback,
    holdLimit := byteOf c.holdLimit, holdDelay := byteOf c.holdDelay, minimumOff := halfOf c.minimumOff,
    minimumRun := halfOf c.minimumRun, startInterval := byteOf c.startInterval,
    defrostInterval := byteOf c.defrostInterval, termination := byteOf c.termination,
    maximumDefrost := byteOf c.maximumDefrost, drip := byteOf c.drip, fallbackRun := byteOf c.fallbackRun,
    fallbackOff := byteOf c.fallbackOff, enabled := byteOfBool c.enabled }

/-- The Budget Arbiter's settings as SET_BUDGET carries them; the budget is the one last written (R164). -/
def Arbiter.params (a : Arbiter) : BudgetParams :=
  { budget := byteOf a.limit, payoutDemand := byteOf a.payoutDemand, startDemand := byteOf a.startDemand,
    runDemand := byteOf a.runDemand, defrostDemand := byteOf a.defrostDemand, fair := byteOfBool a.fair,
    releaseMode := byteOfBool (a.releaseMode = .ror) }

/-- The wake source enables as SET_WAKE_SOURCES carries them. -/
def Supply.wakeParams (u : Supply) : WakeParams :=
  { coin := byteOfBool u.wakeCoin, door := byteOfBool u.wakeDoor, cashless := byteOfBool u.wakeCashless }

/-- The probe amounts as SET_PROBES carries them. -/
def probeParamsOf (p : Vector Nat 4) : ProbeParams :=
  { amount0 := halfOf p[0], amount1 := halfOf p[1], amount2 := halfOf p[2], amount3 := halfOf p[3] }

/-- Every item the image holds, as the records stand (R194). -/
def State.imageOf (s : State) : Image :=
  { lanes := s.lanes.records.toList.map imageLaneOf
    windows := s.lanes.windows.toList.map Window.params
    coins := s.coins.table.toList.map CoinEntry.params
    tubes := s.tubes.tubes.toList.map Tube.params
    machine := s.machine.params
    cooling := s.cooling.settings.params
    budget := s.arbiter.params
    acceptance := byteOfBool s.coins.acceptance
    wake := s.supply.wakeParams
    probes := probeParamsOf s.tubes.probes }

/-! ## Applying a valid image (R193) -/

/-- Whether an image's item marks its lane as fitted. -/
def ImageLane.isFitted (l : ImageLane) : Bool := l.fitted = 0x01#8

/-- The alternate of an image's lane (R3): one that names the lane itself, or a lane the image leaves unfitted, is
dropped. A byte of 80 to 254 names no lane; no valid image holds one (R193). -/
def Image.alternateOf (i : Image) (n : Nat) (b : Byte) : Option LaneNo :=
  match laneOrNone b with
  | some (some a) =>
    if a.val ≠ n ∧ (i.lanes[a.val]?.map ImageLane.isFitted) = some true then some a else none
  | _ => none

/-- The record of lane `n` as the image gives it (R3). -/
def Image.laneRecord (i : Image) (n : Nat) : LaneRecord :=
  match i.lanes[n]? with
  | some l =>
    if l.isFitted then
      (laneConfigOf l.params).map fun c => { c.fit with alternate := i.alternateOf n l.alternate }
    else none
  | none => none

/-- Write a list over the entries of a table from entry `k` on, an entry for which there is none left as it is. -/
def overwrite {α : Type} {n : Nat} : Nat → List (Option α) → Vector α n → Vector α n
  | _, [], v => v
  | k, x :: xs, v =>
    overwrite (k + 1) xs
      (match x with
       | some a => v.setIfInBounds k a
       | none => v)

/-- A tube with a configuration (R54). -/
def Tube.configure (c : TubeConfig) (t : Tube) : Tube :=
  { t with value := c.value, capacity := c.capacity, lowMark := c.lowMark, reserve := c.reserve }

/-- The wake source enables a SET_WAKE_SOURCES carries: `none` when a value is neither yes nor no (R171). -/
def wakeOf (p : WakeParams) : Option (Bool × Bool × Bool) :=
  match choice2 p.coin, choice2 p.door, choice2 p.cashless with
  | some c, some d, some k => some (c, d, k)
  | _, _, _ => none

/-- Take the wake source enables. -/
def Supply.withWake (u : Supply) (w : Bool × Bool × Bool) : Supply :=
  { u with wakeCoin := w.1, wakeDoor := w.2.1, wakeCashless := w.2.2 }

/-- The four probe amounts (R56). -/
def probeAmounts (p : ProbeParams) : Vector Nat 4 :=
  ⟨#[p.amount0.toNat, p.amount1.toNat, p.amount2.toNat, p.amount3.toNat], rfl⟩

/-- Take SET_BUDGET's settings with the allocation at 0 (R164). -/
def Arbiter.configure (c : BudgetConfig) (a : Arbiter) : Arbiter :=
  { a with
    budget := c.budget, pendingBudget := none, payoutDemand := c.payoutDemand, startDemand := c.startDemand,
    runDemand := c.runDemand, defrostDemand := c.defrostDemand, fair := c.fair, releaseMode := c.releaseMode }

/-- A valid image applied over the cold-start values, as if each of its values had been written by its request
(R193). A value that its request would refuse leaves the cold-start value (log entry 18). -/
def State.applyImage (i : Image) (s : State) : State :=
  { s with
    lanes :=
      { s.lanes with
        records := overwrite 0 ((List.range 80).map fun n => some (i.laneRecord n)) s.lanes.records
        windows := overwrite 0 (i.windows.map windowOf) s.lanes.windows }
    coins :=
      { s.coins with
        table := overwrite 0 (i.coins.map coinEntryOf) s.coins.table
        acceptance := yesNo i.acceptance }
    tubes :=
      { s.tubes with
        tubes :=
          overwrite 0
            ((s.tubes.tubes.toList.zip i.tubes).map fun p => some (p.1.configure (tubeConfigOf p.2))) s.tubes.tubes
        probes := probeAmounts i.probes }
    machine := (machineSettingsOf i.machine).getD s.machine
    cooling := { s.cooling with settings := (coolingSettingsOf i.cooling).getD s.cooling.settings }
    arbiter :=
      match budgetConfigOf i.budget with
      | some c => s.arbiter.configure c
      | none => s.arbiter
    supply :=
      match wakeOf i.wake with
      | some w => s.supply.withWake w
      | none => s.supply }

/-! ## The store (R194) -/

/-- The memory after the first `n` byte writes of a store of the copy: the header with the marker erased, the later
items and the sum in order, and the marker last. -/
def Memory.afterWrites (copy : List Byte) (n : Nat) (m : List Host.Cell) : List Host.Cell :=
  if copy.length < n then Memory.writeBlock copy m
  else Memory.writeBlock ((Memory.erased :: copy.drop 1).take n) m

/-- The number of byte writes of a whole store: the marker is written twice. -/
def storeWrites : Nat := imageLength + 1

/-- A store is abandoned by a power-fail warning or an RST_N assertion (R194): no result and no flag. How many of its
writes had been made is a free value (log entry 16). -/
def ImagePort.abandon (p : ImagePort) : ImagePort :=
  match p.copy with
  | none => p
  | some copy =>
    { p with
      copy := none
      memory := Memory.afterWrites copy (Config.freeStoreProgress p.freeDraws) p.memory
      freeDraws := p.freeDraws + 1 }

end Sys2Proof.Machine
end

