-- ==== Sys2Proof/Machine/StartOps.lean ====
section
/-! DEFINITION. The power-fail warning, RST_N and the starts (R188–R191), with what each block's own rule gives for
them: R3, R24, R37, R39, R43, R70, R92, R97, R115, R157, R172, R174, R179. -/
namespace Sys2Proof.Machine

/-- A cell sample (R172): the state is replaced, and CELL is set when it differs and is WEAK or DEAD. -/
def State.sampleCell (millivolts : Nat) (s : State) : State :=
  let c := cellStateOf millivolts
  State.setFlagIf (c != s.supply.cell && c != .good) .cell { s with supply := { s.supply with cell := c } }

/-- The part becomes inert (R189): the drive is switched off with its marker kept (R37), the order is dropped and every
commitment released (R92, R43), a coin in transit is dropped (R70), a store is abandoned (R194). The rest stands where
it is (R174, R97); no exact-change evaluation follows the release of the commitments, since a warning sets no flag (R44, R92).
Both are log entry 25. -/
def State.goInert (s : State) : State :=
  let s := s.mapTubes fun t => { t with committed := 0 }
  { s with
    drive := { s.drive with context := none }
    payout := { s.payout with order := none, held := false, solenoids := Vector.replicate 6 none }
    coins := { s.coins with slot := none }
    image := s.image.abandon
    supply := { s.supply with power := .inert } }

/-- The cell sample of a power-fail warning: a DEAD one makes the marker INVALID (R188, R189). -/
def State.sampleAtWarning (millivolts : Nat) (s : State) : State :=
  let s := s.sampleCell millivolts
  if s.supply.cell = .dead then { s with supply := { s.supply with markerValid := false } } else s

/-- The serial memory line and the first cell sample are read (R190). -/
def State.startReadings (fitted : Bool) (millivolts : Nat) (s : State) : State :=
  { s with
    image := { s.image with fitted := fitted }
    supply := { s.supply with cell := cellStateOf millivolts } }

/-- Steps 1 and 2 of a cold start (R191): the marker is INVALID and every retained record takes its cold-start value.
What lies outside the part stands: the serial memory, the link, the waiting commands. -/
def State.coldValues (s : State) : State :=
  { State.reset with
    supply :=
      { State.reset.supply with
        cell := s.supply.cell, power := .loading, markerValid := false, startKind := s.supply.startKind }
    image := { State.reset.image with fitted := s.image.fitted, memory := s.image.memory, freeDraws := s.image.freeDraws }
    port := { State.reset.port with link := s.port.link }
    pending := s.pending }

/-- A tube as a start leaves it (R43): no commitment, unverified, its sensors as read, its presence from the contacts,
and the clamps applied if it is ACTIVE. -/
def Tube.afterStart (t : Tube) (seated low full : Bool) : Tube :=
  let t : Tube :=
    { t with committed := 0, verified := false, presence := .absent, lowCovered := low, fullCovered := full }
  if seated && t.configured then ({ t with presence := .active } : Tube).clampBoth else t

/-- The Tube Table as a start leaves it (R43). -/
def TubeTable.afterStart (tt : TubeTable) (expected : Nat) (i : StartInputs) : TubeTable :=
  let code := if i.contactFirst && i.contactSecond then i.codePins.val else 0
  let state := cassetteStateOf i.contactFirst i.contactSecond code expected
  let tt : TubeTable :=
    { tt with
      tubes :=
        Vector.ofFn fun n : Fin 6 => tt.tubes[n].afterStart (state = .seated) i.lowCovered[n] i.fullCovered[n]
      contactFirst := i.contactFirst
      contactSecond := i.contactSecond
      cassette := state
      cassetteCode := code }
  { tt with exactChange := tt.exactChangeDue }

/-- The Session Controller as a start leaves it (R97). -/
def State.sessionAfterStart (s : State) : State :=
  (s.returnEscrow.openOrIdle).clearCancel

/-- The lanes as a start leaves them (R3, R39): the lane named by the driving marker becomes OFF_HOME if it is HOMED,
and the marker and the context are cleared. -/
def State.drivesAfterStart (s : State) : State :=
  let s :=
    match s.drive.marker with
    | some l => s.positionReport l .offHome
    | none => s
  { s with drive := { context := none, marker := none } }

/-- The Cooling Controller as a start leaves it (R157); the timer of a LATCHED hold is 0 (log entry 33). -/
def Cooling.afterStart (c : Cooling) : Cooling :=
  { cabinet := Channel.initial, coil := Channel.initial, call := false, fallback := none, compressor := .offResting,
    minimumOff := some (Timer.start c.settings.minimumOffMs), startInterval := none, minimumRun := none,
    yieldHeld := false, accumulatedRun := c.accumulatedRun, runPhase := 0, defrost := .none, defrostTimer := 0,
    drip := none, hold := c.hold, holdTimer := 0, settings := c.settings }

/-- The Budget Arbiter as a start leaves it (R159, R164): the budget last written is B. -/
def Arbiter.afterStart (a : Arbiter) : Arbiter :=
  { a with table := GrantTable.initial, budget := a.limit, pendingBudget := none }

/-- The Supply and Power block as a start leaves it (R169, R170, R174, R188): the comparators as read. -/
def Supply.afterStart (u : Supply) (kind : StartKind) (i : StartInputs) : Supply :=
  { u with
    underLevel := i.underAsserted, overLevel := i.overAsserted, underSeen := false, overSeen := false, door := .opened,
    quiet := false, power := .running, markerValid := true, startKind := kind }

/-- A comparator found asserted at the start (R166): its seen flag is latched and SUPPLY is set. -/
def State.foundAsserted (s : State) : State :=
  State.setFlagIf s.supplyCondition .supply
    { s with supply := { s.supply with underSeen := s.supply.underLevel, overSeen := s.supply.overLevel } }

/-- Every start completes so (R190, R191): each block takes its start values, then the readings of the start set their
flags, and a defrost whose interval the accumulated run has reached becomes due (R151). -/
def State.completeStart (kind : StartKind) (badImage : Bool) (i : StartInputs) (s : State) : State :=
  let s := s.drivesAfterStart.sessionAfterStart
  let s : State :=
    { s with
      tubes := s.tubes.afterStart s.machine.expectedCode i
      coins := { s.coins with slot := none, diverter := .cashbox, lastReject := none }
      payout := { order := none, held := false, record := none, solenoids := Vector.replicate 6 none }
      vend := { context := none, result := none }
      cooling := s.cooling.afterStart
      arbiter := s.arbiter.afterStart
      supply := s.supply.afterStart kind i
      image := { s.image with imageBad := badImage, result := if badImage then .badImage else .none, copy := none }
      port := { pending := Reply.noReply, sdo := [], flags := 0#17, mask := 0#17, link := s.port.link } }
  let s := s.setFlagIf badImage .storeDone
  let s := (s.setFlagIf (s.supply.cell != .good) .cell).foundAsserted
  s.checkDefrostInterval State.evaluate

/-- The image of the serial memory, as a cold start reads it (R193): none when the memory did not acknowledge every
byte, or the image is not valid. -/
def ImagePort.load (p : ImagePort) (acknowledged : Bool) : Option Image :=
  if acknowledged then Image.ofBytes (Memory.readBlock imageLength 0 p.memory) else none

/-- Steps 3 and 4 of a cold start with a fitted memory (R191). -/
def State.loadImage (acknowledged : Bool) (i : StartInputs) (s : State) : State :=
  match s.image.load acknowledged with
  | some image => (s.applyImage image).completeStart .cold false i
  | none => s.completeStart .cold true i

end Sys2Proof.Machine
end

