-- ==== Sys2Proof/Machine/Clock.lean ====
section
/-! DEFINITION. The part's time: what one millisecond does, and which expiry command is due (log entry 2). The opcode
table has no row for a millisecond; it is what a step does on an empty queue. -/
namespace Sys2Proof.Machine

/-- A timer one millisecond later. -/
def Timer.tick (t : Timer) : Timer := { elapsed := t.elapsed + 1, limit := t.limit }

/-- The closing timer of a drop window one millisecond later. -/
def DropWindow.tick : DropWindow → DropWindow
  | .opened t => .opened (t.map Timer.tick)
  | .closed => .closed

/-- The drive's debounce one millisecond later. -/
def DriveContext.tick (d : DriveContext) : DriveContext :=
  { d with stallDebounce := d.stallDebounce.map Timer.tick, edgeOver := false, checkOver := false }

/-- The operation's timers one millisecond later. -/
def VendContext.tick (c : VendContext) : VendContext :=
  { c with
    budgetWait := c.budgetWait.map Timer.tick, tStart := c.tStart.map Timer.tick, tCycle := c.tCycle.map Timer.tick,
    runTime := c.runTime.map Timer.tick, window := c.window.tick, afterClose := false }

/-- The order's timers one millisecond later. -/
def Order.tick (o : Order) : Order :=
  { o with
    budgetWait := o.budgetWait.map Timer.tick
    awaited := o.awaited.map fun a => { a with timer := a.timer.tick, afterFault := false } }

/-- A solenoid pulse one millisecond later; it ends after its 30 ms (R84). -/
def solenoidTick : Option Timer → Option Timer
  | some m => if m.limit ≤ m.elapsed + 1 then none else some m.tick
  | none => none

/-- The Cooling Controller one millisecond later. -/
def Cooling.tick (c : Cooling) : Cooling :=
  { c with
    fallback := c.fallback.map fun p => (p.1, p.2.tick)
    minimumOff := c.minimumOff.map Timer.tick
    startInterval := c.startInterval.map Timer.tick
    minimumRun := c.minimumRun.map Timer.tick
    drip := c.drip.map Timer.tick
    runPhase := if c.compressor.isOn then c.runPhase + 1 else c.runPhase
    defrostTimer := if c.defrost = .heating then c.defrostTimer + 1 else c.defrostTimer
    holdTimer := if c.holdTimerRuns then c.holdTimer + 1 else c.holdTimer }

/-- One millisecond passes. While the part is inert no timer moves (R189). -/
def State.tick (s : State) : State :=
  if s.isRunning then
    { s with
      coins := { s.coins with slot := s.coins.slot.map fun t => { t with timer := t.timer.tick } }
      payout :=
        { s.payout with
          order := s.payout.order.map Order.tick, solenoids := mapTable solenoidTick s.payout.solenoids }
      session := { s.session with timer := s.session.timer.map Timer.tick }
      drive :=
        { s.drive with
          context := s.drive.context.map DriveContext.tick }
      vend := { s.vend with context := s.vend.context.map VendContext.tick }
      cooling := s.cooling.tick }
  else s

/-- An order's budget wait, or the limit of its awaited coin, has run out. -/
def orderDue (f : Order → Option Timer) : Option Order → Bool
  | some o => timerDue (f o)
  | none => false

/-- One of an operation's timers has run out. -/
def vendDue (f : VendContext → Option Timer) : Option VendContext → Bool
  | some c => timerDue (f c)
  | none => false

/-- The expiries of the money side and of the vend that are due, in the order of the opcode table. -/
def State.dueMoneyAndVend (s : State) : List (Bool × Instr) :=
  [(timerDue (s.coins.slot.map (·.timer)), .transitLimitExpiry),
   (orderDue (·.budgetWait) s.payout.order, .payoutBudgetWaitExpiry),
   (orderDue (fun o => o.awaited.map (·.timer)) s.payout.order, .payoutCoinLimitExpiry),
   (timerDue s.session.timer, .sessionTimeoutExpiry),
   (timerDue (s.drive.context.bind (·.stallDebounce)), .stallDebounceExpiry),
   (vendDue (·.budgetWait) s.vend.context, .vendBudgetWaitExpiry),
   (vendDue (·.tStart) s.vend.context, .tStartExpiry),
   (vendDue (·.tCycle) s.vend.context, .tCycleExpiry),
   (vendDue (·.runTime) s.vend.context, .runTimeExpiry),
   (vendDue (fun c => match c.window with | .opened t => t | .closed => none) s.vend.context, .dropWindowClose)]

/-- The expiries of the Cooling Controller that are due: the count of a second of running first, so that a second which
completes as the run stops is counted (log entry 30), and then in the order of the opcode table. -/
def State.dueCooling (s : State) : List (Bool × Instr) :=
  let c := s.cooling
  [(c.compressor.isOn && decide (1000 ≤ c.runPhase), .accumulatedRunCount),
   (timerDue (c.fallback.map (·.2)), .fallbackPhaseEnd),
   (c.compressor = .starting && timerDue c.startInterval, .startIntervalEnd),
   (c.compressor.isOn && timerDue c.minimumRun, .minimumRunExpiry),
   (c.compressor = .offResting && timerDue c.minimumOff, .minimumOffEnd),
   (c.defrost = .heating && c.defrostTimedOut, .maximumDefrostReached),
   (c.defrost = .dripping && timerDue c.drip, .dripEnd),
   (c.holdTimerRuns && decide (c.settings.holdDelayMs ≤ c.holdTimer), .holdDelayReached)]

/-- The first expiry command that is due, if any. -/
def State.due (s : State) : Option Instr :=
  if s.isRunning then ((s.dueMoneyAndVend ++ s.dueCooling).find? (·.1)).map (·.2) else none

end Sys2Proof.Machine
end

