-- ==== Sys2Proof/Machine/CoolingCommands.lean ====
section
/-! DEFINITION. The requests of the Cooling Controller (R143, R151, R156, R158). -/
namespace Sys2Proof.Machine

/-- Take new settings into the Cooling Controller. -/
def State.withCoolingSettings (c : CoolingSettings) (s : State) : State :=
  s.setCooling { s.cooling with settings := c }

/-- A TIMING hold whose timer has reached the hold delay latches (R155). -/
def State.latchIfReached (s : State) : State :=
  if s.cooling.hold = .timing && decide (s.cooling.settings.holdDelayMs ≤ s.cooling.holdTimer) then s.latchHold else s

/-- Heating that has reached the maximum defrost ends (R143, R152). -/
def State.endLongHeating (s : State) : State :=
  if s.cooling.defrost = .heating && s.cooling.defrostTimedOut then s.heatingEnds State.evaluate else s

/-- The settings that apply at once take effect, in the order of the table of R143: the thermostat, the hold and its
delay, the defrost interval, the maximum defrost, cooling enabled. -/
def State.applyCooling (c : CoolingSettings) (s : State) : State :=
  let s := (s.withCoolingSettings c).evaluateThermostat State.evaluate
  let s := s.evaluateHold.latchIfReached
  let s := (s.checkDefrostInterval State.evaluate).endLongHeating
  s.updateCompressor State.evaluate

/-- SET_COOLING (R143). -/
def execSetCooling (p : CoolingParams) (s : State) : Host.Outcome State Fault Refusal :=
  s.frame 19 0x40#8 fun s =>
    match coolingSettingsOf p with
    | none => Answer.refuse .outOfRange s
    | some c => Answer.ok c.params.bytes (s.applyCooling c)

/-- A channel in a reply (R158). -/
def Channel.fields (c : Channel) : List Byte :=
  bit (c.status = .fault) ++ bit c.filtered.isSome ++ temperature c.filtered ++ lastSampleField c.lastSample
    ++ fieldOr 1 (c.lastFault.map FaultKind.code) ++ field 1 c.faultRun ++ field 1 c.validRun

/-- The fallback cycle: whether it runs, its phase and the time left in it. -/
def fallbackFields : Option (FallbackPhase × Timer) → List Byte
  | some (p, t) => bit true ++ field 1 (match p with | .on => 0 | .off => 1) ++ fieldOr 4 (timeLeft (some t))
  | none => bit false ++ absent 1 ++ absent 4

/-- The timer of the compressor's state: minimum off, start interval or minimum run (R158). In STARTING, where two run,
it is the start interval (log entry 13). -/
def Cooling.compressorTimer (c : Cooling) : Option Timer :=
  match c.compressor with
  | .offResting => c.minimumOff
  | .starting => c.startInterval
  | .running => c.minimumRun
  | _ => none

/-- Accumulated run in ms (R176). -/
def Cooling.accumulatedRunMs (c : Cooling) : Nat := c.accumulatedRun * 1000

/-- The reply of READ_COOLING (R158); the call is 0 off and 1 on, a relay 0 open and 1 closed, and the settings have the
widths of SET_COOLING, one byte for D, E, H and the termination (log entry 13). -/
def State.coolingFields (s : State) : List Byte :=
  s.cooling.cabinet.fields ++ s.cooling.coil.fields ++ temperature (some s.effectiveSetpoint)
    ++ temperature (some s.cutIn) ++ bit s.cooling.call ++ fallbackFields s.cooling.fallback
    ++ field 1 s.cooling.compressor.code ++ fieldOr 4 (timeLeft s.cooling.compressorTimer) ++ bit s.cooling.yieldHeld
    ++ bit s.compressorRelay ++ bit s.heaterRelay ++ field 4 s.cooling.accumulatedRunMs
    ++ field 1 s.cooling.defrost.code ++ field 4 s.cooling.defrostTimer ++ fieldOr 4 (timeLeft s.cooling.drip)
    ++ field 1 s.cooling.hold.code ++ field 4 s.cooling.holdTimer ++ s.cooling.settings.params.bytes

/-- READ_COOLING (R158). -/
def execReadCooling (s : State) : Host.Outcome State Fault Refusal :=
  s.frame 1 0x41#8 fun s => Answer.ok s.coolingFields s

/-- The cabinet is cold enough for a release (R156): CABINET OK and seeded, T_f at or below the release point. -/
def State.releasable (s : State) : Bool :=
  s.cooling.cabinet.status = .ok &&
    match s.cooling.cabinet.filtered with
    | some t => decide (t ≤ s.cutIn)
    | none => false

/-- The reply of RELEASE_HOLD (R156): the release point is the effective setpoint plus D. -/
def State.holdFields (s : State) : List Byte :=
  field 1 s.cooling.hold.code ++ field 4 s.cooling.holdTimer ++ bit (s.cooling.cabinet.status = .fault)
    ++ temperature s.cooling.cabinet.filtered ++ temperature (some s.cutIn)

/-- RELEASE_HOLD (R156). -/
def State.releaseHoldAnswer (s : State) : Answer :=
  match s.cooling.hold with
  | .clear => Answer.ok s.holdFields s
  | _ =>
    if s.releasable then
      let t := s.setCooling { s.cooling with hold := .clear, holdTimer := 0 }
      Answer.ok t.holdFields t
    else Answer.refuse .tooWarm s s.holdFields

/-- RELEASE_HOLD (R156). -/
def execReleaseHold (s : State) : Host.Outcome State Fault Refusal :=
  s.frame 1 0x42#8 fun s => s.releaseHoldAnswer

/-- The reply of START_DEFROST (R151). -/
def State.defrostFields (s : State) : List Byte := field 1 s.cooling.defrost.code ++ field 1 s.cooling.compressor.code

/-- START_DEFROST (R151). -/
def State.startDefrostAnswer (s : State) : Answer :=
  if s.cooling.defrost = .none then
    let t := s.defrostDue State.evaluate
    Answer.ok t.defrostFields t
  else Answer.refuse .busy s s.defrostFields

/-- START_DEFROST (R151). -/
def execStartDefrost (s : State) : Host.Outcome State Fault Refusal :=
  s.frame 1 0x43#8 fun s => s.startDefrostAnswer

end Sys2Proof.Machine
end

