-- ==== Sys2Proof/Machine/CoolingEvents.lean ====
section
/-! DEFINITION. The samples and expiries of the Cooling Controller (R140–R155). -/
namespace Sys2Proof.Machine

/-- THERMISTOR_SAMPLE (R140). -/
def execThermistorSample (channel : ChannelName) (reading : Reading) (s : State) : Host.Outcome State Fault Refusal :=
  s.event fun s =>
    match channel with
    | .cabinet => s.sampleCabinet State.evaluate (readingOf reading)
    | .coil => s.sampleCoil State.evaluate (readingOf reading)

/-- A fallback phase ends (R145): the other begins, of the length then set, and sets the call. -/
def State.fallbackEnds (s : State) : State :=
  match s.cooling.fallback with
  | none => s
  | some (.on, _) =>
    State.setCall State.evaluate false
      (s.setCooling { s.cooling with fallback := some (.off, Timer.start s.cooling.settings.fallbackOffMs) })
  | some (.off, _) => s.beginFallback State.evaluate

/-- FALLBACK_PHASE_END (R145). -/
def execFallbackPhaseEnd (s : State) : Host.Outcome State Fault Refusal := s.event State.fallbackEnds

/-- The start interval ends (R146): RUNNING, and the grant is reduced to the run demand. -/
def State.startIntervalEnds (s : State) : State :=
  if s.cooling.compressor = .starting ∧ s.cooling.startInterval.isSome then
    (s.setCooling { s.cooling with compressor := .running, startInterval := none }).reduceCompressor State.evaluate
  else s

/-- START_INTERVAL_END (R146). -/
def execStartIntervalEnd (s : State) : Host.Outcome State Fault Refusal := s.event State.startIntervalEnds

/-- MINIMUM_RUN_EXPIRY (R147, R150). -/
def execMinimumRunExpiry (s : State) : Host.Outcome State Fault Refusal :=
  s.event fun s => s.minimumRunExpires State.evaluate

/-- The minimum off ends (R147): OFF_IDLE, and on to WAIT_BUDGET if called to run. -/
def State.minimumOffEnds (s : State) : State :=
  if s.cooling.compressor = .offResting ∧ s.cooling.minimumOff.isSome then
    (s.setCooling { s.cooling with compressor := .offIdle, minimumOff := none }).updateCompressor State.evaluate
  else s

/-- MINIMUM_OFF_END (R147). -/
def execMinimumOffEnd (s : State) : Host.Outcome State Fault Refusal := s.event State.minimumOffEnds

/-- A second of running is counted (R146), bounded at 24 h, and handed to the defrost (R151). The milliseconds of the
second that was counted leave `runPhase` (log entry 30). -/
def State.countRun (s : State) : State :=
  if s.cooling.compressor.isOn then
    State.checkDefrostInterval State.evaluate
      (s.setCooling
        { s.cooling with
          accumulatedRun := min 86400 (s.cooling.accumulatedRun + 1), runPhase := s.cooling.runPhase - 1000 })
  else s

/-- ACCUMULATED_RUN_COUNT (R146, R151). -/
def execAccumulatedRunCount (s : State) : Host.Outcome State Fault Refusal := s.event State.countRun

/-- The defrost timer reaches the maximum defrost (R152). -/
def State.maximumDefrost (s : State) : State :=
  if s.cooling.defrost = .heating then
    State.heatingEnds State.evaluate
      (s.setCooling
        { s.cooling with defrostTimer := max s.cooling.defrostTimer s.cooling.settings.maximumDefrostMs })
  else s

/-- MAXIMUM_DEFROST_REACHED (R152, R153). -/
def execMaximumDefrostReached (s : State) : Host.Outcome State Fault Refusal := s.event State.maximumDefrost

/-- DRIP_END (R153). -/
def execDripEnd (s : State) : Host.Outcome State Fault Refusal :=
  s.event fun s =>
    if s.cooling.defrost = .dripping ∧ s.cooling.drip.isSome then s.dripEnds State.evaluate else s

/-- The hold timer reaches the hold delay (R155). -/
def State.holdDelayReached (s : State) : State :=
  if s.cooling.holdTimerRuns then
    (s.setCooling { s.cooling with holdTimer := max s.cooling.holdTimer s.cooling.settings.holdDelayMs }).latchHold
  else s

/-- HOLD_DELAY_REACHED (R155). -/
def execHoldDelayReached (s : State) : Host.Outcome State Fault Refusal := s.event State.holdDelayReached

end Sys2Proof.Machine
end

