-- ==== Sys2Proof/Machine/DriveEvents.lean ====
section
/-! DEFINITION. The machine events and expiries of the Drive Matrix (R28, R29, R33, R34) and of the Vend Engine (R122,
R125–R130). -/
namespace Sys2Proof.Machine

/-! ## Home switch -/

/-- The start level of a drive is taken (R28, R29); a drive has one start level. -/
def State.takeStartLevel (level : HomeLevel) (s : State) : State :=
  match s.drive.context with
  | none => s
  | some d => if d.homeLevel.isSome then s else s.takeHomeLevel State.evaluate level

/-- START_LEVEL_TAKEN (R28). -/
def execStartLevelTaken (level : HomeLevel) (s : State) : Host.Outcome State Fault Refusal :=
  s.event fun s => s.takeStartLevel level

/-- The home level of the driven lane changes (R29). Before the start level of a drive is taken, a CLOSED level may be
the closed edge of the drive that ended in the event that began this one: it is then not seen (R35, log entry 31). -/
def State.changeHomeLevel (level : HomeLevel) (s : State) : State :=
  match s.drive.context with
  | none => s
  | some d =>
    if d.edgeOver ∧ d.homeLevel = none ∧ level = .closed then s else s.takeHomeLevel State.evaluate level

/-- HOME_LEVEL_CHANGE (R29). -/
def execHomeLevelChange (level : HomeLevel) (s : State) : Host.Outcome State Fault Refusal :=
  s.event fun s => s.changeHomeLevel level

/-! ## Drive current -/

/-- The drive current is measured (R33): above the stall threshold the debounce runs, from zero at each rise; at or
below it the debounce stops. -/
def DriveContext.measure (d : DriveContext) (milliamps : Nat) : DriveContext :=
  if d.stallThreshold < milliamps then
    { d with stallDebounce := some (d.stallDebounce.getD (Timer.start 50)) }
  else { d with stallDebounce := none }

/-- Replace the drive context. -/
def State.setDrive (d : DriveContext) (s : State) : State := { s with drive := { s.drive with context := some d } }

/-- DRIVE_CURRENT_CHANGE (R32, R33): current is not measured while no lane is driven. -/
def execDriveCurrentChange (milliamps : Nat) (s : State) : Host.Outcome State Fault Refusal :=
  s.event fun s =>
    match s.drive.context with
    | none => s
    | some d => s.setDrive (d.measure milliamps)

/-- The stall debounce ends (R33). -/
def State.stallEnds (s : State) : State :=
  match s.drive.context with
  | none => s
  | some d =>
    if d.stallDebounce.isSome then (s.setDrive { d with current := .stall }).switchOff State.evaluate .stall else s

/-- STALL_DEBOUNCE_EXPIRY (R33). -/
def execStallDebounceExpiry (s : State) : Host.Outcome State Fault Refusal := s.event State.stallEnds

/-- The open check (R34): made once in a drive; with the stall debounce running it is passed. Before the start level is
taken it may be that of the drive that ended in the event that began this one: it is then not made (R35, log entry
31). -/
def State.openChecked (milliamps : Nat) (s : State) : State :=
  match s.drive.context with
  | none => s
  | some d =>
    if d.openCheckPassed ∨ (d.checkOver ∧ d.homeLevel = none) then s
    else if d.stallDebounce.isNone ∧ milliamps < openThreshold then
      (s.setDrive { d with current := .openCircuit }).switchOff State.evaluate .openCircuit
    else s.setDrive { d with openCheckPassed := true }

/-- OPEN_CHECK (R34). -/
def execOpenCheck (milliamps : Nat) (s : State) : Host.Outcome State Fault Refusal :=
  s.event fun s => s.openChecked milliamps

/-! ## Limits of a run -/

/-- The budget wait of an operation expires (R122). -/
def State.vendWaitExpires (s : State) : State :=
  match s.vend.context with
  | none => s
  | some c => if c.budgetWait.isSome then s.endVend State.evaluate .failed (some .budget) else s

/-- VEND_BUDGET_WAIT_EXPIRY (R122). -/
def execVendBudgetWaitExpiry (s : State) : Host.Outcome State Fault Refusal := s.event State.vendWaitExpires

/-- T_start expires before HOME_OPENED (R125). -/
def State.tStartExpires (s : State) : State :=
  match s.vend.context with
  | none => s
  | some c =>
    if takesExpiry c.tStart then
      (s.setVend (some { c with tStart := none, limitCause := some .noStart })).switchOff State.evaluate .commanded
    else s

/-- T_START_EXPIRY (R125). -/
def execTStartExpiry (s : State) : Host.Outcome State Fault Refusal := s.event State.tStartExpires

/-- T_cycle expires before the run has stopped (R124, R125); a HOME_LANE's sets no limit cause (R139). -/
def State.tCycleExpires (s : State) : State :=
  match s.vend.context with
  | none => s
  | some c =>
    if takesExpiry c.tCycle then
      (s.setVend (some { c with tCycle := none, limitCause := if c.kind = .homeLane then none else some .jam })).switchOff
        State.evaluate .commanded
    else s

/-- T_CYCLE_EXPIRY (R125). -/
def execTCycleExpiry (s : State) : Host.Outcome State Fault Refusal := s.event State.tCycleExpires

/-- The run time of a TIMED lane expires (R126). -/
def State.runTimeExpires (s : State) : State :=
  match s.vend.context with
  | none => s
  | some c =>
    if takesExpiry c.runTime then
      (s.setVend (some { c with runTime := none })).switchOff State.evaluate .commanded
    else s

/-- RUN_TIME_EXPIRY (R126). -/
def execRunTimeExpiry (s : State) : Host.Outcome State Fault Refusal := s.event State.runTimeExpires

/-! ## The drop -/

/-- DROP_SEEN (R128). -/
def execDropSeen (s : State) : Host.Outcome State Fault Refusal := s.event fun s => s.dropSensed State.evaluate

/-- DROP_WINDOW_CLOSE (R127, R130). -/
def execDropWindowClose (s : State) : Host.Outcome State Fault Refusal :=
  s.event fun s => s.windowCloses State.evaluate

end Sys2Proof.Machine
end

