-- ==== Sys2Proof/Machine/LaneCommands.lean ====
section
/-! DEFINITION. The requests on lane records and selection windows (R12–R22). -/
namespace Sys2Proof.Machine

/-! ## The lane record in a reply (R22) -/

/-- Fit state, numbered UNFITTED, ACTIVE, FAULTED. -/
def fitCode : LaneRecord → Nat
  | none => 0
  | some f => if f.fault.isSome then 2 else 1

/-- Stock and capacity, then the sold-out marker, 0 clear and 1 set (log entry 13): the form not held is absent
(R176). -/
def Stock.fields : Stock → List Byte
  | .counted stock cap => field 1 stock ++ field 1 cap ++ absent 1
  | .uncounted soldOut => absent 1 ++ absent 1 ++ bit soldOut

/-- Availability as a yes or no byte, then the reason in a byte of its own, absent when there is none (R4, R22; the form
is log entry 13). -/
def availabilityFields (u : Option Unavailable) : List Byte := bit u.isNone ++ fieldOr 1 (u.map Unavailable.code)

/-- The fields a fitted record holds, from the fault cause to the drive duty. -/
def FittedLane.fields (f : FittedLane) : List Byte :=
  fieldOr 1 (f.fault.map FaultCause.code)
    ++ field 1 (match f.motor.position with | .home => 0 | .offHome => 1)
    ++ field 2 f.price
    ++ field 1 (match f.stock with | .counted _ _ => 0 | .uncounted _ => 1)
    ++ f.stock.fields
    ++ bit (f.laneClass = .chilled)
    ++ bit (!f.motor.isHomed)
    ++ (match f.motor with | .homed _ => absent 2 | .timed r => field 2 r)
    ++ fieldOr 1 (f.alternate.map (·.val))
    ++ field 1 f.demand
    ++ field 2 f.duty

/-- The reply of READ_LANE (R22); an UNFITTED record's fields are zero fill. -/
def State.laneFields (s : State) (l : LaneNo) : List Byte :=
  field 1 (fitCode (s.lane l))
    ++ (match s.lane l with
        | some f => f.fields
        | none => List.replicate 16 0x00#8)
    ++ bit (s.engaged l)
    ++ availabilityFields (s.unavailable l)
    ++ field 1 s.lanes.faultedCount

/-- The reply to a taken lane request: the record as it stands after the change (R15). -/
def State.laneAnswer (s : State) (l : LaneNo) : Answer := Answer.ok (s.laneFields l) s

/-- The checks of R15 on the lane field of a request that changes a fitted lane: OUT_OF_RANGE, NOT_FITTED, LANE_BUSY,
in that order. -/
def State.onFittedLane (s : State) (lane : Byte) (f : LaneNo → FittedLane → Answer) : Answer :=
  match index 80 lane with
  | none => Answer.refuse .outOfRange s
  | some l =>
    match s.lane l with
    | none => Answer.refuse .notFitted s
    | some r => if s.engaged l then Answer.refuse .laneBusy s else f l r

/-! ## LOOKUP and READ_LANE -/

/-- LOOKUP (R14): lane, price, availability and reason, window; or NO_SELECTION with the window and the computed lane
where there is one. R14 lists the lane first and names the computed lane again beside the window: the OK reply carries it
once, as its first item (log entry 13). -/
def State.lookupAnswer (s : State) (code : Half) : Answer :=
  if 999 < code.toNat then Answer.refuse .outOfRange s
  else
    let k := s.lookupCode code.toNat
    match k.lane with
    | none => Answer.refuse .noSelection s (fieldOr 1 k.window ++ fieldOr 1 k.computed)
    | some l =>
      match s.lane l with
      | none => Answer.refuse .noSelection s (fieldOr 1 k.window ++ fieldOr 1 k.computed)
      | some f =>
        Answer.ok (field 1 l.val ++ field 2 f.price ++ availabilityFields (s.unavailable l) ++ fieldOr 1 k.window) s

/-- LOOKUP (R14). -/
def execLookup (code : Half) (s : State) : Host.Outcome State Fault Refusal :=
  s.frame 3 0x10#8 fun s => s.lookupAnswer code

/-- READ_LANE (R22). -/
def execReadLane (lane : Byte) (s : State) : Host.Outcome State Fault Refusal :=
  s.frame 2 0x11#8 fun s =>
    match index 80 lane with
    | none => Answer.refuse .outOfRange s
    | some l => s.laneAnswer l

/-! ## SET_LANE -/

/-- Stock after a change of stock mode (table of R17). -/
def Stock.reconfigured (k : Stock) (c : LaneConfig) : Stock :=
  match k with
  | .counted stock _ => if c.counted then .counted (min stock c.capacity) c.capacity else .uncounted (stock = 0)
  | .uncounted soldOut => if c.counted then .counted 0 c.capacity else .uncounted soldOut

/-- Motor after a change of motor kind (R17): a TIMED lane rewritten as HOMED is OFF_HOME; a HOMED lane that stays HOMED
keeps its position. -/
def Motor.reconfigured (m : Motor) (c : LaneConfig) : Motor :=
  if c.timed then .timed c.runTime
  else
    match m with
    | .homed p => .homed p
    | .timed _ => .homed .offHome

/-- A fitted lane reconfigured (R17): its fit state, fault cause and alternate are kept. -/
def FittedLane.reconfigured (f : FittedLane) (c : LaneConfig) : FittedLane :=
  { f with
    price := c.price, stock := f.stock.reconfigured c, laneClass := c.laneClass, motor := f.motor.reconfigured c,
    demand := c.demand, duty := c.duty }

/-- The record SET_LANE leaves (R16, R17). -/
def LaneConfig.record (c : LaneConfig) : LaneRecord → FittedLane
  | none => c.fit
  | some f => f.reconfigured c

/-- SET_LANE: the checks of R15, then R16 for an UNFITTED lane and R17 for a fitted one. -/
def State.setLaneAnswer (s : State) (lane : Byte) (p : LaneParams) : Answer :=
  match index 80 lane with
  | none => Answer.refuse .outOfRange s
  | some l =>
    match laneConfigOf p with
    | none => Answer.refuse .outOfRange s
    | some c =>
      if s.engaged l then Answer.refuse .laneBusy s
      else (s.setLane l (some (c.record (s.lane l)))).laneAnswer l

/-- SET_LANE (R16, R17). -/
def execSetLane (lane : Byte) (p : LaneParams) (s : State) : Host.Outcome State Fault Refusal :=
  s.frame 13 0x12#8 fun s => s.setLaneAnswer lane p

/-! ## The other lane requests -/

/-- Whether an alternate may be linked to a lane (R18): none, or another lane that is fitted. -/
def State.linkAllowed (s : State) (l : LaneNo) : Option LaneNo → Bool
  | none => true
  | some a => a != l && (s.lane a).isSome

/-- SET_LINK (R18), its two lane fields checked first (R15). -/
def State.setLinkAnswer (s : State) (lane alternate : Byte) : Answer :=
  match laneOrNone alternate with
  | none => Answer.refuse .outOfRange s
  | some alt =>
    s.onFittedLane lane fun l f =>
      if s.linkAllowed l alt then (s.setLane l (some { f with alternate := alt })).laneAnswer l
      else Answer.refuse .badLink s

/-- SET_LINK (R18). -/
def execSetLink (lane alternate : Byte) (s : State) : Host.Outcome State Fault Refusal :=
  s.frame 3 0x13#8 fun s => s.setLinkAnswer lane alternate

/-- Stock as RESTOCK leaves it (R19); 0xFF is FILL. -/
def Stock.restocked (k : Stock) (count : Byte) : Stock :=
  match k with
  | .counted _ cap => .counted (if count = 0xFF#8 then cap else min count.toNat cap) cap
  | .uncounted _ => .uncounted false

/-- RESTOCK (R19). -/
def execRestock (lane count : Byte) (s : State) : Host.Outcome State Fault Refusal :=
  s.frame 3 0x14#8 fun s =>
    s.onFittedLane lane fun l f => (s.setLane l (some { f with stock := f.stock.restocked count })).laneAnswer l

/-- Whether a record's alternate names the lane. -/
def namesAlternate (l : LaneNo) : LaneRecord → Bool
  | some f => f.alternate = some l
  | none => false

/-- A record without its alternate when that names the lane (R20). -/
def unlink (l : LaneNo) : LaneRecord → LaneRecord
  | some f => if f.alternate = some l then some { f with alternate := none } else some f
  | none => none

/-- The lane becomes UNFITTED, every alternate that names it is removed, and a FAULTED lane leaves the count (R20). -/
def State.retire (l : LaneNo) (s : State) : State :=
  let wasFaulted := isFaulted (s.lane l)
  let s := s.setLane l none
  State.dropFaulted wasFaulted { s with lanes := { s.lanes with records := mapTable (unlink l) s.lanes.records } }

/-- How many other lanes' alternates name the lane (R20). -/
def State.linksTo (s : State) (l : LaneNo) : Nat := ((s.setLane l none).lanes.records.toList.filter (namesAlternate l)).length

/-- RETIRE_LANE (R20): the record, then the number of alternates removed from other lanes. -/
def execRetireLane (lane : Byte) (s : State) : Host.Outcome State Fault Refusal :=
  s.frame 2 0x15#8 fun s =>
    s.onFittedLane lane fun l _ =>
      let t := s.retire l
      Answer.ok (t.laneFields l ++ field 1 (s.linksTo l)) t

/-- A lane returned to service (R21): ACTIVE, OFF_HOME if HOMED, the count one lower; an ACTIVE lane is unchanged. -/
def State.clearFault (l : LaneNo) (f : FittedLane) (s : State) : State :=
  if f.fault.isSome then
    State.dropFaulted true (s.setLane l (some { f with fault := none, motor := f.motor.moveTo .offHome }))
  else s

/-- CLEAR_LANE_FAULT (R21). -/
def execClearLaneFault (lane : Byte) (s : State) : Host.Outcome State Fault Refusal :=
  s.frame 2 0x16#8 fun s => s.onFittedLane lane fun l f => (s.clearFault l f).laneAnswer l

/-! ## Windows -/

/-- A window's four fields in a reply (R12, R13). -/
def Window.fields (w : Window) : List Byte :=
  field 2 w.firstCode ++ field 2 w.lastCode ++ field 1 w.baseLane.val ++ bit w.enabled

/-- SET_WINDOW (R12). -/
def execSetWindow (window : Byte) (p : WindowParams) (s : State) : Host.Outcome State Fault Refusal :=
  s.frame 8 0x17#8 fun s =>
    match index 8 window, windowOf p with
    | some n, some w =>
      Answer.ok w.fields { s with lanes := { s.lanes with windows := s.lanes.windows.set n w } }
    | _, _ => Answer.refuse .outOfRange s

/-- READ_WINDOW (R13). -/
def execReadWindow (window : Byte) (s : State) : Host.Outcome State Fault Refusal :=
  s.frame 2 0x18#8 fun s =>
    match index 8 window with
    | none => Answer.refuse .outOfRange s
    | some n => Answer.ok s.lanes.windows[n].fields s

end Sys2Proof.Machine
end

