-- ==== Sys2Proof/Machine/MoneyCommands.lean ====
section
/-! DEFINITION. The requests of the money side: the session (R102, R109, R114), the Coin Router (R59, R61, R73, R74),
the Tube Table (R53–R57) and the Payout Engine (R82, R93). -/
namespace Sys2Proof.Machine

/-! ## Wake from QUIET (R171) -/

/-- Leave QUIET: the thermostat call is worked out again (R170); the gate follows by itself. -/
def State.leaveQuiet (s : State) : State :=
  if s.supply.quiet then
    State.evaluateThermostat State.evaluate { s with supply := { s.supply with quiet := false } }
  else s

/-- A wake source event of a source that is enabled or not (R171): it wakes a QUIET part and sets WAKE. -/
def State.wakeEvent (enabled : Bool) (s : State) : State :=
  if s.supply.quiet && enabled then (s.setFlag .wake).leaveQuiet else s

/-! ## Session -/

/-- The amount that a grant of cashless credit gives (R102). -/
def State.grantable (s : State) (amount : Nat) : Nat := min amount s.headroom

/-- Add cashless credit (R102): a grant above 0 in IDLE clears the Session Record and opens the session; a grant in
OPEN is activity. -/
def State.addCashless (granted : Nat) (s : State) : State :=
  let s := if s.session.state = .idle ∧ 0 < granted then s.clearSessionRecord.openSession else s
  State.activity
    { s with session :=
        { s.session with
          cashless := s.session.cashless + granted
          record := { s.session.record with cashlessGranted := s.session.record.cashlessGranted + granted } } }

/-- GRANT_CASHLESS of a part that is not QUIET (R102). -/
def State.grantAnswer (s : State) (amount : Nat) : Answer :=
  if s.session.state = .vending ∨ s.session.state = .paying then Answer.refuse .busy s
  else
    let granted := s.grantable amount
    let t := s.addCashless granted
    Answer.ok (field 2 amount ++ field 2 granted ++ field 2 (t.session.coin + t.session.cashless)) t

/-- GRANT_CASHLESS (R102): refused in QUIET unless CASHLESS is an enabled wake source, which wakes the part first. -/
def execGrantCashless (amount : Half) (s : State) : Host.Outcome State Fault Refusal :=
  s.frame 3 0x30#8 fun s =>
    if s.supply.quiet && !s.supply.wakeCashless then Answer.refuse .quiet s
    else (s.wakeEvent s.supply.wakeCashless).grantAnswer amount.toNat

/-- CANCEL's effect (R109). In OPEN it is activity: an order that pays nothing brings the session back to OPEN in the
same event. -/
def State.cancelled (s : State) : State :=
  match s.session.state with
  | .opened => (s.actCancel State.evaluate false).timerReplacing s.session.timer
  | .vending => { s with session := { s.session with cancelPending := true } }
  | .paying => s
  | .idle => s

/-- CANCEL (R109). -/
def execCancel (s : State) : Host.Outcome State Fault Refusal :=
  s.frame 1 0x31#8 fun s =>
    let t := s.cancelled
    Answer.ok (field 1 t.session.state.code ++ bit t.session.cancelPending) t

/-- The six fields of the Session Record, four bytes each (R176). -/
def SessionRecord.fields (r : SessionRecord) : List Byte :=
  field 4 r.accepted ++ field 4 r.coinSales ++ field 4 r.paid ++ field 4 r.cashlessGranted ++ field 4 r.cashlessUsed
    ++ field 4 r.cashlessReturned

/-- The reply of READ_SESSION (R114). -/
def State.sessionFields (s : State) : List Byte :=
  field 2 s.session.coin ++ field 2 s.session.cashless ++ field 2 s.session.escrowCoin
    ++ field 2 s.session.escrowCashless ++ field 2 s.session.total ++ field 2 s.headroom
    ++ field 1 s.session.state.code ++ bit s.session.cancelPending ++ fieldOr 4 (timeLeft s.session.timer)
    ++ bit (s.machine.vendMode = .multi) ++ field 2 s.machine.creditCeiling ++ field 1 s.machine.sessionTimeout
    ++ s.session.record.fields ++ bit s.payout.held

/-- READ_SESSION (R114). -/
def execReadSession (s : State) : Host.Outcome State Fault Refusal :=
  s.frame 1 0x32#8 fun s => Answer.ok s.sessionFields s

/-! ## Coin Router -/

/-- A coin type's entry in a reply, in the widths of SET_COIN_TYPE. -/
def CoinEntry.fields (e : CoinEntry) : List Byte :=
  field 2 e.value ++ field 1 e.destination.code ++ bit e.inhibit ++ bit e.changeDependent

/-- The slot: the coin's type, value, route and time left, absent when it is empty (R74). -/
def slotFields : Option Transit → List Byte
  | some t => field 1 t.type.val ++ field 2 t.value ++ field 1 t.route.code ++ fieldOr 4 (timeLeft (some t.timer))
  | none => absent 1 ++ absent 2 ++ absent 1 ++ absent 4

/-- The type presented with a returned coin: 0 to 15, and 16 for UNKNOWN. -/
def presentedCode : Option CoinTypeNo → Nat
  | some t => t.val
  | none => 16

/-- The last-reject reason, none for NONE, and the type presented with it. -/
def rejectFields : Option Reject → List Byte
  | some r => field 1 r.reason.code ++ field 1 (presentedCode r.type)
  | none => absent 1 ++ absent 1

/-- The Coin Router status (R74). -/
def State.routerFields (s : State) : List Byte :=
  bit s.coins.acceptance ++ bit (!s.gateOpen) ++ fieldOr 1 (s.gateClosed.map RejectReason.code)
    ++ slotFields s.coins.slot ++ field 1 s.coins.diverter.code ++ rejectFields s.coins.lastReject
    ++ field 4 s.coins.cashbox ++ s.coins.table.toList.flatMap CoinEntry.fields

/-- Acceptance as a SET_ACCEPT mode leaves it (R61); none for a mode that is not OFF, ON or KEEP. -/
def acceptanceAfter (mode : Byte) (old : Bool) : Option Bool :=
  match mode.toNat with
  | 0 => some false
  | 1 => some true
  | 2 => some old
  | _ => none

/-- SET_ACCEPT (R61, R74). -/
def execSetAccept (mode : Byte) (s : State) : Host.Outcome State Fault Refusal :=
  s.frame 2 0x33#8 fun s =>
    match acceptanceAfter mode s.coins.acceptance with
    | none => Answer.refuse .outOfRange s
    | some a =>
      let t : State := { s with coins := { s.coins with acceptance := a } }
      Answer.ok t.routerFields t

/-- SET_COIN_TYPE (R59). -/
def execSetCoinType (type : Byte) (p : CoinParams) (s : State) : Host.Outcome State Fault Refusal :=
  s.frame 7 0x34#8 fun s =>
    match index 16 type, coinEntryOf p with
    | some n, some e => Answer.ok e.fields { s with coins := { s.coins with table := s.coins.table.set n e } }
    | _, _ => Answer.refuse .outOfRange s

/-- CLEAR_CASHBOX (R73): the reply carries the value the counter held. -/
def execClearCashbox (s : State) : Host.Outcome State Fault Refusal :=
  s.frame 1 0x3C#8 fun s => Answer.ok (field 4 s.coins.cashbox) { s with coins := { s.coins with cashbox := 0 } }

/-! ## Tube Table -/

/-- A sensor level, numbered COVERED, UNCOVERED (table before R41, R181). -/
def levelCode (covered : Bool) : Nat := if covered then 0 else 1

/-- The fields of a tube record from the value to the committed coins (table before R41). -/
def Tube.countFields (t : Tube) : List Byte :=
  field 2 t.value ++ field 1 t.capacity ++ field 1 t.lowMark ++ field 1 t.reserve ++ field 1 t.presence.code
    ++ field 1 t.count ++ bit t.verified ++ field 1 t.committed

/-- The levels of a tube's full and low sensors. -/
def Tube.levelFields (t : Tube) : List Byte := field 1 (levelCode t.fullCovered) ++ field 1 (levelCode t.lowCovered)

/-- A tube in the reply of READ_TUBES (R57): its record, with the basis and FULL, which are no fields of it (R42). -/
def Tube.fields (t : Tube) : List Byte := t.countFields ++ field 1 t.basis ++ bit t.isFull ++ t.levelFields

/-- The record as taken (R54, R55): the fields of the table before R41, in its order (log entry 13). -/
def Tube.recordFields (t : Tube) : List Byte := t.countFields ++ t.levelFields

/-- A tube after the table of R54, its configuration written. -/
def Tube.reconfigured (t : Tube) (c : TubeConfig) (seated : Bool) : Tube :=
  let new := t.configure c
  if c.value = 0 then { new with presence := .absent, count := 0, verified := false }
  else if !t.configured then
    { new with presence := if seated then .active else .absent, count := 0, verified := false }
  else if c.value = t.value then new
  else { new with count := 0, verified := false }

/-- A tube as SET_TUBE leaves it (R54): an ACTIVE or FAULT tube has both clamps applied. -/
def Tube.written (t : Tube) (c : TubeConfig) (seated : Bool) : Tube :=
  let new := t.reconfigured c seated
  if new.presence = .absent then new else new.clampBoth

/-- The reply that carries a tube's record as taken (R54, R55). -/
def State.tubeAnswer (s : State) (t : TubeNo) : Answer := Answer.ok (s.tube t).recordFields s

/-- SET_TUBE (R54). -/
def State.setTubeAnswer (s : State) (tube : Byte) (p : TubeParams) : Answer :=
  match index 6 tube with
  | none => Answer.refuse .outOfRange s
  | some n =>
    if s.payout.order.isSome then Answer.refuse .busy s
    else
      (s.setTube n ((s.tube n).written (tubeConfigOf p) (s.tubes.cassette = .seated))).evaluateExact.tubeAnswer n

/-- SET_TUBE (R54). -/
def execSetTube (tube : Byte) (p : TubeParams) (s : State) : Host.Outcome State Fault Refusal :=
  s.frame 7 0x35#8 fun s => s.setTubeAnswer tube p

/-- SET_TUBE_COUNT (R55): a byte lies in the count's range. -/
def State.setTubeCountAnswer (s : State) (tube count : Byte) : Answer :=
  match index 6 tube with
  | none => Answer.refuse .outOfRange s
  | some n =>
    let t := s.tube n
    if !t.configured then Answer.refuse .notFitted s
    else if count.toNat < t.committed then Answer.refuse .busy s
    else (s.setTube n { t with count := count.toNat, verified := true }).evaluateExact.tubeAnswer n

/-- SET_TUBE_COUNT (R55). -/
def execSetTubeCount (tube count : Byte) (s : State) : Host.Outcome State Fault Refusal :=
  s.frame 3 0x36#8 fun s => s.setTubeCountAnswer tube count

/-- CLEAR_TUBE_FAULT (R53). -/
def State.clearTubeFaultAnswer (s : State) (tube : Byte) : Answer :=
  match index 6 tube with
  | none => Answer.refuse .outOfRange s
  | some n =>
    let t := s.tube n
    if !t.configured then Answer.refuse .notFitted s
    else if t.presence = .fault then Answer.ok [] (s.setTube n { t with presence := .active }).evaluateExact
    else Answer.ok [] s

/-- CLEAR_TUBE_FAULT (R53). -/
def execClearTubeFault (tube : Byte) (s : State) : Host.Outcome State Fault Refusal :=
  s.frame 2 0x37#8 fun s => s.clearTubeFaultAnswer tube

/-- The four probe amounts in a reply. -/
def probeFields (p : Vector Nat 4) : List Byte := p.toList.flatMap fun a => field 2 a

/-- SET_PROBES (R56). -/
def execSetProbes (p : ProbeParams) (s : State) : Host.Outcome State Fault Refusal :=
  s.frame 9 0x38#8 fun s =>
    let t := State.evaluateExact { s with tubes := { s.tubes with probes := probeAmounts p } }
    Answer.ok (probeFields t.tubes.probes) t

/-- A probe in READ_TUBES (R57): its amount, and then its own result, pass (0) or fail (1) for a used one and absent for
another. That each amount is followed by its result, and not all four amounts by the results, is log entry 13. -/
def TubeTable.probeResult (tt : TubeTable) (a : Nat) : List Byte :=
  field 2 a ++ fieldOr 1 (if a = 0 then none else some (if tt.probePasses a then 0 else 1))

/-- The reply of READ_TUBES (R57); the exact-change state is 0 off and 1 on, and the probes are sent amount and result
probe by probe (log entry 13). -/
def State.tubeFields (s : State) : List Byte :=
  s.tubes.tubes.toList.flatMap Tube.fields ++ field 1 s.tubes.cassette.code ++ field 1 s.tubes.cassetteCode
    ++ field 1 s.machine.expectedCode ++ s.tubes.probes.toList.flatMap s.tubes.probeResult ++ bit s.tubes.exactChange

/-- READ_TUBES (R57). -/
def execReadTubes (s : State) : Host.Outcome State Fault Refusal :=
  s.frame 1 0x39#8 fun s => Answer.ok s.tubeFields s

/-! ## Payout Engine -/

/-- DISPENSE (R82): the coins planned and the planned shortfall. -/
def State.dispenseAnswer (s : State) (tube coins : Byte) : Answer :=
  match index 6 tube with
  | none => Answer.refuse .outOfRange s
  | some n =>
    if s.supply.quiet then Answer.refuse .quiet s
    else if s.supply.door = .closed then Answer.refuse .doorClosed s
    else if s.session.state ≠ .idle ∨ s.payout.order.isSome then Answer.refuse .busy s
    else if !(s.tube n).configured then Answer.refuse .notFitted s
    else
      let asked := clamp 1 255 coins.toNat
      let planned := min asked (s.tube n).basis
      Answer.ok (field 1 planned ++ field 4 ((asked - planned) * (s.tube n).value))
        (s.createDispenseOrder State.evaluate n asked)

/-- DISPENSE (R82). -/
def execDispense (tube coins : Byte) (s : State) : Host.Outcome State Fault Refusal :=
  s.frame 3 0x3A#8 fun s => s.dispenseAnswer tube coins

/-- Six coin counts. -/
def countFields (v : Vector Nat 6) : List Byte := v.toList.flatMap fun n => field 1 n

/-- The Payout Record in a reply (R93): before any order, source NONE, every number 0 and no cause. -/
def recordFields : Option PayoutRecord → List Byte
  | some r =>
    field 1 (payoutSourceCode (some r.source)) ++ field 4 r.asked ++ field 4 r.paid ++ field 4 r.shortfall
      ++ countFields r.perTube ++ field 1 r.cause.code
  | none => field 1 (payoutSourceCode none) ++ List.replicate 18 0x00#8 ++ absent 1

/-- The order in flight in a reply (R93), absent when there is none. The reserve-dipped mark of a DISPENSE order, a field
that the order's table gives to SESSION only, is sent as 0 and not as absent (log entry 13). -/
def State.orderFields (s : State) : List Byte :=
  match s.payout.order with
  | some o =>
    field 1 (payoutSourceCode (some o.source)) ++ field 1 o.state.code ++ field 4 o.asked ++ field 4 o.paid
      ++ countFields o.plan ++ countFields o.paidPerTube ++ field 4 (o.plannedShortfall s.tubes)
      ++ bit o.reserveDipped ++ fieldOr 1 (o.awaited.map (·.tube.val)) ++ bit s.payout.held
  | none => absent 29

/-- READ_PAYOUT_RESULT (R93). -/
def execReadPayoutResult (s : State) : Host.Outcome State Fault Refusal :=
  s.frame 1 0x3B#8 fun s => Answer.ok (recordFields s.payout.record ++ s.orderFields) s

end Sys2Proof.Machine
end

