-- ==== Sys2Proof/Machine/MoneyEvents.lean ====
section
/-! DEFINITION. The machine events and expiries of the money side: the validator and the accept sensor (R62–R71), the
level sensors and the cassette (R46–R52), the payout (R83–R87) and the session timeout (R112). -/
namespace Sys2Proof.Machine

/-! ## Coins in -/

/-- The first check of R62 that fails for a coin of a known type with this entry, after the gate. -/
def State.entryRejects (s : State) (e : CoinEntry) : Option RejectReason :=
  if e.value = 0 then some .notConfigured
  else if e.inhibit then some .inhibited
  else if s.machine.creditCeiling < s.session.total + e.value then some .ceiling
  else if s.tubes.exactChange && e.changeDependent then some .exactChange
  else none

/-- Where an accepted coin goes (R64). -/
def State.routeOf (s : State) (e : CoinEntry) : Route :=
  match e.destination with
  | .cashbox => .cashbox
  | .tube t =>
    let r := s.tube t
    if r.presence = .active ∧ r.isFull = false ∧ r.value = e.value then .tube t else .cashbox

/-- A coin is returned (R63). -/
def State.returnCoin (reason : RejectReason) (type : Option CoinTypeNo) (s : State) : State :=
  { s with coins := { s.coins with lastReject := some { reason := reason, type := type } } }

/-- A coin is accepted (R64, R65): the diverter is set and the coin enters the slot. -/
def State.acceptCoin (t : CoinTypeNo) (e : CoinEntry) (s : State) : State :=
  let route := s.routeOf e
  { s with coins :=
      { s.coins with
        diverter := route
        slot := some { type := t, value := e.value, route := route, timer := Timer.start s.machine.transitLimit } } }

/-- The checks of R62 in order, and what they decide. -/
def State.presentCoin (type : Option CoinTypeNo) (s : State) : State :=
  match s.gateClosed with
  | some r => s.returnCoin r type
  | none =>
    match type with
    | none => s.returnCoin .unknownType none
    | some t =>
      let e := s.coins.table[t]
      match s.entryRejects e with
      | some r => s.returnCoin r (some t)
      | none => s.acceptCoin t e

/-- COIN_PRESENTED (R62): a coin presented while the part is QUIET is returned, and is then a wake event of the COIN
source (R71). -/
def execCoinPresented (type : Option CoinTypeNo) (s : State) : Host.Outcome State Fault Refusal :=
  s.event fun s => (s.presentCoin type).wakeEvent s.supply.wakeCoin

/-- A confirmed coin is counted into its tube, or its value into the cashbox counter (R45, R66, R72). -/
def State.depositCoin (r : Route) (value : Nat) (s : State) : State :=
  match r with
  | .cashbox => { s with coins := { s.coins with cashbox := min 4294967295 (s.coins.cashbox + value) } }
  | .tube t => if (s.tube t).presence = .absent then s else (s.setTube t (s.tube t).coinIn).evaluateExact

/-- The slot empties; the gate follows by itself. -/
def State.emptySlot (s : State) : State := { s with coins := { s.coins with slot := none } }

/-- The coin in transit is confirmed (R66); with the slot empty the pulse is ignored (R68). -/
def State.confirmCoin (s : State) : State :=
  match s.coins.slot with
  | none => s
  | some t => (((s.creditCoin t.value).depositCoin t.route t.value).setFlag .coin).emptySlot

/-- ACCEPT_SENSOR_PULSE (R66, R68). -/
def execAcceptSensorPulse (s : State) : Host.Outcome State Fault Refusal := s.event State.confirmCoin

/-- TRANSIT_LIMIT_EXPIRY (R67): the coin is lost to the path. -/
def execTransitLimitExpiry (s : State) : Host.Outcome State Fault Refusal :=
  s.event fun s => if s.coins.slot.isSome then s.emptySlot.setFlag .coinPath else s

/-! ## Tubes -/

/-- The clamp of a sensor on an ACTIVE or FAULT tube (R46–R48): a changed count is followed by the exact-change
evaluation, and a trim is handed to the Payout Engine. -/
def State.clampTube (t : TubeNo) (sensor : TubeSensor) (s : State) : State :=
  let old := s.tube t
  let new := old.clampOf sensor
  if old.presence = .absent ∨ new.count = old.count then s
  else
    let s := (s.setTube t new).evaluateExact
    if new.committed < old.committed then s.takeTrim State.evaluate else s

/-- LEVEL_SENSOR_TRANSITION (R46): the level is recorded whatever the presence. -/
def execLevelSensorTransition (tube : TubeNo) (sensor : TubeSensor) (covered : Bool) (s : State) :
    Host.Outcome State Fault Refusal :=
  s.event fun s =>
    if (s.tube tube).level sensor = covered then s
    else (s.setTube tube ((s.tube tube).withLevel sensor covered)).clampTube tube sensor

/-- The contacts take their levels (R49): the code is read at each change to both closed. -/
def TubeTable.withContact (tt : TubeTable) (contact : Contact) (closed : Bool) (pins : Nat) : TubeTable :=
  let tt :=
    match contact with
    | .first => { tt with contactFirst := closed }
    | .second => { tt with contactSecond := closed }
  if tt.contactFirst && tt.contactSecond then { tt with cassetteCode := pins } else tt

/-- The cassette leaves SEATED (R50): its tubes are ABSENT and unverified, the exact-change state is evaluated, and an
order ends with CASSETTE. -/
def State.cassetteRemoved (s : State) : State :=
  ((s.mapTubes Tube.removed).evaluateExact).endOrder State.evaluate .cassette

/-- The cassette becomes SEATED (R51). -/
def State.cassetteSeated (s : State) : State := (s.mapTubes Tube.seated).evaluateExact

/-- The cassette takes a state (R49–R52): each change of it sets CASSETTE. -/
def State.takeCassette (new : CassetteState) (s : State) : State :=
  let old := s.tubes.cassette
  if new = old then s
  else
    let s := State.setFlag .cassette { s with tubes := { s.tubes with cassette := new } }
    if new = .seated then s.cassetteSeated else if old = .seated then s.cassetteRemoved else s

/-- Whether a contact is closed. -/
def TubeTable.contact (tt : TubeTable) : Contact → Bool
  | .first => tt.contactFirst
  | .second => tt.contactSecond

/-- CASSETTE_CONTACT_CHANGE (R49). -/
def execCassetteContactChange (contact : Contact) (closed : Bool) (codePins : Fin 4) (s : State) :
    Host.Outcome State Fault Refusal :=
  s.event fun s =>
    if s.tubes.contact contact = closed then s
    else
      let s : State := { s with tubes := s.tubes.withContact contact closed codePins.val }
      s.takeCassette
        (cassetteStateOf s.tubes.contactFirst s.tubes.contactSecond s.tubes.cassetteCode s.machine.expectedCode)

/-! ## Payout -/

/-- The budget wait of an order expires (R83): the order ends BUDGET. -/
def State.payoutWaitExpires (s : State) : State :=
  match s.payout.order with
  | none => s
  | some o => if o.budgetWait.isSome then s.endOrder State.evaluate .budget else s

/-- PAYOUT_BUDGET_WAIT_EXPIRY (R83). -/
def execPayoutBudgetWaitExpiry (s : State) : Host.Outcome State Fault Refusal := s.event State.payoutWaitExpires

/-- PAYOUT_SENSOR_PULSE (R84, R85). -/
def execPayoutSensorPulse (s : State) : Host.Outcome State Fault Refusal :=
  s.event fun s => s.confirmPayout State.evaluate

/-- PAYOUT_COIN_LIMIT_EXPIRY (R86). -/
def execPayoutCoinLimitExpiry (s : State) : Host.Outcome State Fault Refusal :=
  s.event fun s => s.payoutLimit State.evaluate

/-! ## Session -/

/-- SESSION_TIMEOUT_EXPIRY (R112, R113). -/
def execSessionTimeoutExpiry (s : State) : Host.Outcome State Fault Refusal :=
  s.event fun s => if takesExpiry s.session.timer then s.sessionTimeout else s

end Sys2Proof.Machine
end

