-- ==== Sys2Proof/Machine/PortCommands.lean ====
section
/-! DEFINITION. The Command Port's commands (R177, R178, R183–R185): NOP, the frames judged in error, the link reset,
and the attention requests. -/
namespace Sys2Proof.Machine

/-- NOP (R177): it changes nothing and leaves an OK reply with no payload. -/
def execNop (extra : Nat) (s : State) : Host.Outcome State Fault Refusal :=
  s.frame (1 + extra) 0x00#8 fun s => Answer.ok [] s

/-- The code a discarded frame's reply answers: the first byte received, or 0x00 when there was none (R177). -/
def answeredCode : List Byte → Byte
  | [] => 0x00#8
  | b :: _ => b

/-- FRAME_ERROR (R177): the frame is discarded and LINK is set. -/
def execFrameError (bytes : List Byte) (_partBits : Nat) (s : State) : Host.Outcome State Fault Refusal :=
  s.frame bytes.length (answeredCode bytes) fun s => Answer.refuse .frameError (s.setFlag .link)

/-- UNKNOWN_REQUEST (R177): the frame is discarded; LINK is not set. -/
def execUnknownRequest (code : Byte) (extra : Nat) (s : State) : Host.Outcome State Fault Refusal :=
  s.frame (1 + extra) code fun s => Answer.refuse .unknownRequest s

/-- A falling edge on LRST_N (R178): the pending reply becomes NO_REPLY, and no frame is taken while LRST_N is low. The
level is followed while the part is inert too (log entry 24). -/
def execLinkReset (s : State) : Host.Outcome State Fault Refusal :=
  .next { s with port := { s.port with pending := Reply.noReply, link := .held } }

/-- LRST_N rises (R178): the port waits for SEL_N to be high. -/
def execLrstNRelease (s : State) : Host.Outcome State Fault Refusal :=
  .next
    { s with port := { s.port with link := if s.port.link = .held then .waitSelHigh else s.port.link } }

/-- The ATTN_N level as a reply carries it: 0 low, 1 released. -/
def State.attnField (s : State) : List Byte := bit (!s.attnLow)

/-- READ_ATTENTION (R184). -/
def execReadAttention (s : State) : Host.Outcome State Fault Refusal :=
  s.frame 1 0x01#8 fun s =>
    Answer.ok
      (flagField s.port.flags ++ flagField s.port.mask ++ fieldOr 1 s.port.firstSet ++ field 1 s.lanes.faultedCount) s

/-- Clear the flags whose bits are 1 in a word; when it clears SUPPLY, the seen flags are cleared with it (R185,
R168). -/
def State.acknowledge (w : BitVec 17) (s : State) : State :=
  let clearsSupply := s.port.isSet .supply && w.getLsb Flag.supply.bit
  { s with
    port := { s.port with flags := s.port.flags &&& ~~~w }
    supply :=
      { s.supply with
        underSeen := s.supply.underSeen && !clearsSupply
        overSeen := s.supply.overSeen && !clearsSupply } }

/-- ACK_ATTENTION (R185). -/
def execAckAttention (word : FlagWord) (s : State) : Host.Outcome State Fault Refusal :=
  s.frame 4 0x02#8 fun s =>
    let s := s.acknowledge (flagBits word)
    Answer.ok (flagField s.port.flags ++ s.attnField) s

/-- SET_ATTENTION_MASK (R183). -/
def execSetAttentionMask (word : FlagWord) (s : State) : Host.Outcome State Fault Refusal :=
  s.frame 4 0x03#8 fun s =>
    let s : State := { s with port := { s.port with mask := flagBits word } }
    Answer.ok (flagField s.port.mask ++ flagField s.port.flags ++ s.attnField) s

end Sys2Proof.Machine
end

