-- ==== Sys2Proof/Machine/PowerCommands.lean ====
section
/-! DEFINITION. The requests of the Budget Arbiter (R164, R165), the Supply and Power block (R170, R171, R173), the
machine settings (R186) and the image store (R194). -/
namespace Sys2Proof.Machine

/-! ## Budget -/

/-- The settings of SET_BUDGET taken (R164): a budget at or above the allocation becomes B at once and drops a pending
one; a budget below it stands pending. -/
def Arbiter.withSettings (a : Arbiter) (c : BudgetConfig) : Arbiter :=
  let a :=
    { a with
      payoutDemand := c.payoutDemand, startDemand := c.startDemand, runDemand := c.runDemand,
      defrostDemand := c.defrostDemand, fair := c.fair, releaseMode := c.releaseMode }
  if a.table.allocation ≤ c.budget then { a with budget := c.budget, pendingBudget := none }
  else { a with pendingBudget := some c.budget }

/-- The state of an entry, numbered IDLE, WAITING, GRANTED. -/
def Entry.code : Entry → Nat
  | .idle => 0
  | .waiting _ => 1
  | .granted _ _ => 2

/-- The recorded demand; none for IDLE. -/
def Entry.demand : Entry → Option Nat
  | .idle => none
  | .waiting d => some d
  | .granted d _ => some d

/-- The run demand recorded with the COMPRESSOR request; none for IDLE. -/
def GrantTable.runDemand (g : GrantTable) : Option Nat :=
  match g.compressor with
  | .idle => none
  | _ => some g.compressorRun

/-- The Grant Table reply (R165). -/
def State.budgetFields (s : State) : List Byte :=
  let a := s.arbiter
  let g := a.table
  field 1 g.payout.code ++ fieldOr 1 g.payout.demand ++ field 1 g.payout.amount
    ++ field 1 g.vend.code ++ fieldOr 1 g.vend.demand ++ field 1 g.vend.amount
    ++ field 1 g.compressor.code ++ fieldOr 1 g.compressor.demand ++ fieldOr 1 g.runDemand
    ++ field 1 g.compressor.amount
    ++ field 1 g.defrost.code ++ fieldOr 1 g.defrost.demand ++ field 1 g.defrost.amount
    ++ field 1 a.budget ++ fieldOr 1 a.pendingBudget ++ field 1 a.limit ++ field 1 g.allocation
    ++ bit a.fair ++ bit (a.releaseMode = .ror)
    ++ field 1 a.payoutDemand ++ field 1 a.startDemand ++ field 1 a.runDemand ++ field 1 a.defrostDemand
    ++ bit s.supplyCondition ++ bit s.cooling.yieldHeld

/-- SET_BUDGET (R164): the settings, then an evaluation (R161). -/
def execSetBudget (p : BudgetParams) (s : State) : Host.Outcome State Fault Refusal :=
  s.frame 8 0x50#8 fun s =>
    match budgetConfigOf p with
    | none => Answer.refuse .outOfRange s
    | some c =>
      let t := State.evaluate { s with arbiter := s.arbiter.withSettings c }
      Answer.ok t.budgetFields t

/-- READ_BUDGET (R165). -/
def execReadBudget (s : State) : Host.Outcome State Fault Refusal :=
  s.frame 1 0x51#8 fun s => Answer.ok s.budgetFields s

/-! ## QUIET -/

/-- The part can go quiet (R170). -/
def State.canGoQuiet (s : State) : Bool :=
  s.session.state = .idle && s.vend.context.isNone && s.payout.order.isNone && s.coins.slot.isNone

/-- Enter QUIET (R170): the thermostat call is worked out again with the setback; the gate follows by itself. -/
def State.goQuiet (s : State) : State :=
  State.evaluateThermostat State.evaluate { s with supply := { s.supply with quiet := true } }

/-- ENTER_QUIET (R170). -/
def State.enterQuietAnswer (s : State) : Answer :=
  if s.supply.quiet then Answer.ok [] s
  else if s.canGoQuiet then Answer.ok [] s.goQuiet
  else Answer.refuse .busy s

/-- ENTER_QUIET (R170). -/
def execEnterQuiet (s : State) : Host.Outcome State Fault Refusal :=
  s.frame 1 0x52#8 fun s => s.enterQuietAnswer

/-- WAKE (R171): it does not set the flag WAKE. -/
def execWake (s : State) : Host.Outcome State Fault Refusal :=
  s.frame 1 0x53#8 fun s => Answer.ok [] s.leaveQuiet

/-- SET_WAKE_SOURCES (R171). -/
def execSetWakeSources (p : WakeParams) (s : State) : Host.Outcome State Fault Refusal :=
  s.frame 4 0x54#8 fun s =>
    match wakeOf p with
    | none => Answer.refuse .outOfRange s
    | some w =>
      let t : State := { s with supply := s.supply.withWake w }
      Answer.ok t.supply.wakeParams.bytes t

/-! ## READ_SUPPLY -/

/-- The reply of READ_SUPPLY (R173). -/
def State.supplyFields (s : State) : List Byte :=
  let u := s.supply
  bit s.supplyCondition ++ bit u.underLevel ++ bit u.overLevel ++ bit u.underSeen ++ bit u.overSeen
    ++ bit (u.door = .closed) ++ bit u.quiet ++ bit u.wakeCoin ++ bit u.wakeDoor ++ bit u.wakeCashless
    ++ field 1 u.cell.code ++ bit (u.startKind = .cold) ++ bit s.image.imageBad ++ field 1 s.image.result.code

/-- READ_SUPPLY (R173): with clear yes the reply carries the seen flags as they stood. -/
def execReadSupply (clear : Byte) (s : State) : Host.Outcome State Fault Refusal :=
  s.frame 2 0x55#8 fun s =>
    match choice2 clear with
    | none => Answer.refuse .outOfRange s
    | some false => Answer.ok s.supplyFields s
    | some true =>
      Answer.ok s.supplyFields { s with supply := { s.supply with underSeen := false, overSeen := false } }

/-! ## SET_MACHINE and STORE_IMAGE -/

/-- SET_MACHINE (R186). -/
def execSetMachine (p : MachineParams) (s : State) : Host.Outcome State Fault Refusal :=
  s.frame 20 0x60#8 fun s =>
    match machineSettingsOf p with
    | none => Answer.refuse .outOfRange s
    | some m => Answer.ok m.params.bytes { s with machine := m }

/-- A store begins (R194): the copy is taken, and the marker in the memory is erased. -/
def State.beginStore (s : State) : State :=
  let copy := s.imageOf.bytes
  { s with image :=
      { s.image with
        result := .running, copy := some copy, memory := Memory.afterWrites copy 1 s.image.memory } }

/-- STORE_IMAGE (R194). -/
def State.storeImageAnswer (s : State) : Answer :=
  if !s.image.fitted then Answer.refuse .noMemory s
  else if s.image.copy.isSome then Answer.refuse .busy s
  else Answer.ok [] s.beginStore

/-- STORE_IMAGE (R194). -/
def execStoreImage (s : State) : Host.Outcome State Fault Refusal :=
  s.frame 1 0x61#8 fun s => s.storeImageAnswer

end Sys2Proof.Machine
end

