-- ==== Sys2Proof/Machine/PowerEvents.lean ====
section
/-! DEFINITION. The events of the Supply and Power block and of the Image Port: the supply monitor (R166–R168), the door
(R169), the cell (R172), the power-fail warning, RST_N and the starts (R189–R191), the image load (R193) and the end of
an image store (R194). -/
namespace Sys2Proof.Machine

/-! ## Supply monitor -/

/-- A comparator asserts (R166): its level is taken, its seen flag latched, SUPPLY set. -/
def State.assertSupply (kind : SupplyKind) (s : State) : State :=
  State.setFlag .supply
    (match kind with
     | .under => { s with supply := { s.supply with underLevel := true, underSeen := true } }
     | .over => { s with supply := { s.supply with overLevel := true, overSeen := true } })

/-- A supply event reaches its users (R36, R135, R167, R91, R150, R154): the drive, the grants, and the owners in the
order of the entries. An order that an owner's act creates after the event is not ended by it (log entry 12). -/
def State.supplyHits (s : State) : State :=
  let hadOrder := s.payout.order.isSome
  let s := (s.switchOff State.evaluate .abort).revokeAll
  let s := s.abortVend State.evaluate
  let s := if hadOrder then s.endOrder State.evaluate .supply else s
  (s.revokeCompressor State.evaluate).revokeDefrost State.evaluate

/-- SUPPLY_EVENT (R166): an assertion, with the rail beyond the assert threshold. -/
def execSupplyEvent (kind : SupplyKind) (railMillivolts : Nat) (s : State) : Host.Outcome State Fault Refusal :=
  s.event fun s => if railAsserts kind railMillivolts then (s.assertSupply kind).supplyHits else s

/-- A comparator clears (R166). -/
def State.clearSupply (kind : SupplyKind) (s : State) : State :=
  match kind with
  | .under => { s with supply := { s.supply with underLevel := false } }
  | .over => { s with supply := { s.supply with overLevel := false } }

/-- SUPPLY_CLEARED (R166, R168): when the condition becomes absent an evaluation is made. -/
def execSupplyCleared (kind : SupplyKind) (railMillivolts : Nat) (s : State) : Host.Outcome State Fault Refusal :=
  s.event fun s =>
    if railClears kind railMillivolts then
      let t := s.clearSupply kind
      if s.supplyCondition && !t.supplyCondition then t.evaluate else t
    else s

/-! ## Door and cell -/

/-- DOOR_CHANGE (R169): a change of the door state is a wake event of the DOOR source (R171). -/
def execDoorChange (level : DoorState) (s : State) : Host.Outcome State Fault Refusal :=
  s.event fun s =>
    if s.supply.door = level then s
    else State.wakeEvent s.supply.wakeDoor { s with supply := { s.supply with door := level } }

/-- CELL_SAMPLE (R172). -/
def execCellSample (millivolts : Nat) (s : State) : Host.Outcome State Fault Refusal :=
  s.event fun s => s.sampleCell millivolts

/-! ## Power -/

/-- POWER_FAIL_WARNING (R189): taken while the part is inert too. -/
def execPowerFailWarning (cellMillivolts : Nat) (s : State) : Host.Outcome State Fault Refusal :=
  .next (s.goInert.sampleAtWarning cellMillivolts)

/-- RST_N_ASSERTION (R189): as the warning, without the cell sample. -/
def execRstNAssertion (s : State) : Host.Outcome State Fault Refusal := .next s.goInert

/-- WARM_START (R190): an inert part that reads the marker VALID. -/
def execWarmStart (memoryFitted : Bool) (cellMillivolts : Nat) (inputs : StartInputs) (s : State) :
    Host.Outcome State Fault Refusal :=
  .next
    (if s.supply.power = .inert ∧ s.supply.markerValid = true then
      (s.startReadings memoryFitted cellMillivolts).completeStart .warm false inputs
    else s)

/-- COLD_START (R191): an inert part whose marker reads INVALID, or whose store was lost while power was off (R188). With
a fitted memory the part then reads the image; with none it completes. -/
def execColdStart (memoryFitted : Bool) (cellMillivolts : Nat) (inputs : StartInputs) (s : State) :
    Host.Outcome State Fault Refusal :=
  .next
    (if s.supply.power = .inert then
      let s := (s.startReadings memoryFitted cellMillivolts).coldValues
      if memoryFitted then s else s.completeStart .cold false inputs
    else s)

/-- IMAGE_LOAD (R191, R193): step 3 of a cold start ends, and step 4 is made. -/
def execImageLoad (acknowledged : Bool) (inputs : StartInputs) (s : State) : Host.Outcome State Fault Refusal :=
  .next (if s.supply.power = .loading then s.loadImage acknowledged inputs else s)

/-! ## Image store -/

/-- A store ends (R194): OK with every write made, or WRITE_FAIL after the first `n`. -/
def ImagePort.endStore (p : ImagePort) (copy : List Byte) : Option Nat → ImagePort
  | none => { p with copy := none, result := .ok, memory := Memory.afterWrites copy storeWrites p.memory }
  | some n =>
    { p with copy := none, result := .writeFail, memory := Memory.afterWrites copy (min n imageLength) p.memory }

/-- STORE_END (R194). -/
def execStoreEnd (failedAfter : Option Nat) (s : State) : Host.Outcome State Fault Refusal :=
  s.event fun s =>
    match s.image.copy with
    | none => s
    | some copy => State.setFlag .storeDone { s with image := s.image.endStore copy failedAfter }

end Sys2Proof.Machine
end

