-- ==== Sys2Proof/Machine/VendCommands.lean ====
section
/-! DEFINITION. The requests of the Vend Engine (R117–R121, R134, R138, R139, R187). -/
namespace Sys2Proof.Machine

/-- The vend settings in force at an acceptance (R116). -/
def MachineSettings.vendSettings (m : MachineSettings) : VendSettings :=
  { tStart := m.tStart, tCycle := m.tCycle, tDrop := m.tDrop, retries := m.retries, dropSensing := m.dropSensing,
    budgetWait := m.budgetWait }

/-- The context an acceptance creates (R121): every field not given takes its empty value. -/
def State.newContext (s : State) (kind : OpKind) (code : Option Nat) (chosen : LaneNo) (price : Nat)
    (chain : List LaneNo) (current : LaneNo) (bounces : Nat) : VendContext :=
  { kind := kind, code := code, chosen := chosen, price := price, chain := chain, current := current,
    phase := .waitGrant, retriesLeft := s.machine.retries, motionBegun := false, driveBounceUsed := false,
    window := .closed, dropSeen := none, leaveCause := none, limitCause := none, supplyAborted := false,
    inForce := s.machine.vendSettings, turnsMade := 0, availBounces := bounces, driveBounces := 0,
    fromIdle := s.session.state = .idle, budgetWait := some (Timer.start s.machine.budgetWait), tStart := none,
    tCycle := none, runTime := none }

/-- Create a context and ask for its VEND grant (R121 steps 1, 2 and 4). -/
def State.beginOperation (c : VendContext) (demand : Nat) (s : State) : State :=
  (s.setVend (some c)).request State.evaluate .vend demand

/-- The chain built from a lane and its links, at most `n` lanes, with the lanes already in it (R118). -/
def State.buildChain (s : State) : Nat → List LaneNo → LaneNo → List LaneNo
  | 0, taken, _ => taken
  | n + 1, taken, l =>
    if taken.contains l then taken
    else
      match s.lane l with
      | none => taken ++ [l]
      | some f =>
        match f.alternate with
        | none => taken ++ [l]
        | some a => s.buildChain n (taken ++ [l]) a

/-- The chain of a chosen lane (R118). -/
def State.chainOf (s : State) (chosen : LaneNo) : List LaneNo := s.buildChain 3 [] chosen

/-- Three places for the lanes of a chain; an unused place is absent. -/
def chainFields (chain : List LaneNo) : List Byte := (chain.map (fun l => BitVec.ofNat 8 l.val) ++ absent 3).take 3

/-- The coin credit that a vend of the price would leave (R120). -/
def Session.coinLeft (c : Session) (price : Nat) : Nat := c.coin - (price - min c.cashless price)

/-- Checks 7 and 8 and the acceptance of a VEND (R120, R121), for a chosen lane of that price whose chain has the
selected lane available after `bounces` lanes that are not. -/
def State.acceptVend (s : State) (code : Nat) (chosen : LaneNo) (price : Nat) (chain : List LaneNo)
    (selected : LaneNo) (demand bounces : Nat) : Answer :=
  if s.session.coin + s.session.cashless < price then
    Answer.refuse .insufficient s
      (field 2 price ++ field 2 (price - (s.session.coin + s.session.cashless)))
  else if !s.tubes.paysExactly (s.session.coinLeft price) then
    Answer.refuse .noChange s (field 2 (s.session.coinLeft price))
  else
    let c := s.newContext .vend (some code) chosen price chain selected bounces
    let t := s.takeEscrow price
    { status := .accepted
      payload :=
        field 1 chosen.val ++ field 1 selected.val ++ field 2 price ++ chainFields chain ++ field 1 bounces
          ++ field 2 t.session.escrowCoin ++ field 2 t.session.escrowCashless
      state := t.beginOperation c demand }

/-- Checks 5 and 6 of a VEND (R117–R119). -/
def State.selectLane (s : State) (code : Nat) : Answer :=
  let k := s.lookupCode code
  let refused := Answer.refuse .noSelection s (fieldOr 1 k.window ++ fieldOr 1 k.computed)
  match k.lane with
  | none => refused
  | some chosen =>
    match s.lane chosen with
    | none => refused
    | some f =>
      let chain := s.chainOf chosen
      let found := s.firstAvailable chain
      let unavailable :=
        Answer.refuse .unavailable s
          (field 1 chosen.val ++ fieldOr 1 ((s.unavailable chosen).map Unavailable.code))
      match found.2 with
      | none => unavailable
      | some selected =>
        match s.lane selected with
        | none => unavailable
        | some r => s.acceptVend code chosen f.price chain selected r.demand found.1

/-- A VEND request: the checks of R117 in order. -/
def State.vendAnswer (s : State) (code : Half) : Answer :=
  if 999 < code.toNat then Answer.refuse .outOfRange s
  else if s.supply.door = .opened then Answer.refuse .doorOpen s
  else if s.supply.quiet then Answer.refuse .quiet s
  else if (s.session.state ≠ .idle ∧ s.session.state ≠ .opened) ∨ s.vend.context.isSome then
    Answer.refuse .busy s (field 1 s.session.state.code)
  else s.selectLane code.toNat

/-- VEND (R117): activity in OPEN whatever its result (R112), then the checks. -/
def execVend (code : Half) (s : State) : Host.Outcome State Fault Refusal :=
  s.frame 3 0x20#8 fun s => s.activity.vendAnswer code

/-! ## TEST_VEND and HOME_LANE -/

/-- Checks 1 to 5 of the service requests on a lane (R138, R139). -/
def State.serviceLane (s : State) (lane : Byte) (f : LaneNo → FittedLane → Answer) : Answer :=
  match index 80 lane with
  | none => Answer.refuse .outOfRange s
  | some l =>
    if s.supply.quiet then Answer.refuse .quiet s
    else if s.supply.door = .closed then Answer.refuse .doorClosed s
    else if s.session.state ≠ .idle ∨ s.vend.context.isSome then Answer.refuse .busy s
    else
      match s.lane l with
      | none => Answer.refuse .notFitted s
      | some r => f l r

/-- Accept a service operation on one lane. -/
def State.beginService (s : State) (kind : OpKind) (l : LaneNo) (f : FittedLane) : Answer :=
  Answer.ok [] (s.beginOperation (s.newContext kind none l 0 [l] l 0) f.demand)

/-- TEST_VEND (R138). -/
def State.testVendAnswer (s : State) (lane : Byte) : Answer :=
  s.serviceLane lane fun l f =>
    match s.unavailable l with
    | some u => Answer.refuse .unavailable s (field 1 u.code)
    | none => s.beginService .testVend l f

/-- TEST_VEND (R138). -/
def execTestVend (lane : Byte) (s : State) : Host.Outcome State Fault Refusal :=
  s.frame 2 0x21#8 fun s => s.testVendAnswer lane

/-- The reason why a fitted HOMED lane may not be homed (R139): FAULTED or HELD. -/
def State.notHomable (s : State) (f : FittedLane) : Option Unavailable :=
  if f.fault.isSome then some .faulted else if s.laneHeld f then some .held else none

/-- HOME_LANE (R139). -/
def State.homeLaneAnswer (s : State) (lane : Byte) : Answer :=
  s.serviceLane lane fun l f =>
    if !f.motor.isHomed then Answer.refuse .outOfRange s
    else
      match s.notHomable f with
      | some u => Answer.refuse .unavailable s (field 1 u.code)
      | none => s.beginService .homeLane l f

/-- HOME_LANE (R139). -/
def execHomeLane (lane : Byte) (s : State) : Host.Outcome State Fault Refusal :=
  s.frame 2 0x22#8 fun s => s.homeLaneAnswer lane

/-! ## READ_VEND_RESULT -/

/-- Bytes 2 to 13 of the reply (R187): the record of the last operation that ended. R187 gives the availability bounces
as 0 to 2 and R134 as 0 to 3: a count of 3 is sent as it stands (log entry 13). -/
def resultFields : Option VendResult → List Byte
  | none => field 1 (opKindCode none) ++ absent 2 ++ field 1 0 ++ absent 1 ++ absent 1 ++ absent 1 ++ field 2 0
      ++ field 1 0 ++ field 1 0 ++ field 1 0
  | some r =>
    field 1 (opKindCode (some r.kind)) ++ fieldOr 2 r.code ++ field 1 r.chosen.val ++ fieldOr 1 (r.vended.map (·.val))
      ++ field 1 r.outcome.code ++ fieldOr 1 (r.reason.map VendReason.code) ++ field 2 r.price ++ field 1 r.turnsMade
      ++ field 1 r.availBounces ++ field 1 r.driveBounces

/-- The lesser of two times left, where a timer that does not run gives none. -/
def lesserLeft : Option Nat → Option Nat → Option Nat
  | some a, some b => some (min a b)
  | some a, none => some a
  | none, b => b

/-- The closing timer of a window. -/
def DropWindow.closing : DropWindow → Option Timer
  | .opened t => t
  | .closed => none

/-- The time to the first end due among the operation's running timers, 0 when none runs (R187). -/
def VendContext.timeLeft (c : VendContext) : Nat :=
  (lesserLeft (Machine.timeLeft c.budgetWait)
    (lesserLeft (Machine.timeLeft c.tStart)
      (lesserLeft (Machine.timeLeft c.tCycle)
        (lesserLeft (Machine.timeLeft c.runTime) (Machine.timeLeft c.window.closing))))).getD 0

/-- Bytes 14 to 27 of the reply (R187): the operation in flight, 3 availability bounces as they stand (log entry 13). -/
def contextFields : Option VendContext → List Byte
  | none => List.replicate 14 0x00#8
  | some c =>
    field 1 1 ++ field 1 (opKindCode (some c.kind)) ++ chainFields c.chain ++ field 1 c.current.val
      ++ field 1 c.phase.code ++ bit c.dropSeen.isSome ++ field 1 c.retriesLeft ++ field 1 c.turnsMade
      ++ field 1 c.availBounces ++ field 1 c.driveBounces ++ field 2 c.timeLeft

/-- READ_VEND_RESULT (R134, R187). -/
def execReadVendResult (s : State) : Host.Outcome State Fault Refusal :=
  s.frame 1 0x23#8 fun s => Answer.ok (resultFields s.vend.result ++ contextFields s.vend.context) s

end Sys2Proof.Machine
end

