-- ==== Sys2Proof/Machine/Dispatch.lean ====
section
/-! DEFINITION. The dispatch of commands to their meanings, one arm for each constructor of `Instr`. -/
namespace Sys2Proof.Machine

def exec (i : Instr) (s : State) : Host.Outcome State Fault Refusal :=
  match i with
  | .nop extra => Sys2Proof.Machine.execNop extra s
  | .frameError bytes partBits => Sys2Proof.Machine.execFrameError bytes partBits s
  | .unknownRequest code extra => Sys2Proof.Machine.execUnknownRequest code extra s
  | .linkReset => Sys2Proof.Machine.execLinkReset s
  | .readAttention => Sys2Proof.Machine.execReadAttention s
  | .ackAttention word => Sys2Proof.Machine.execAckAttention word s
  | .setAttentionMask word => Sys2Proof.Machine.execSetAttentionMask word s
  | .lookup code => Sys2Proof.Machine.execLookup code s
  | .readLane lane => Sys2Proof.Machine.execReadLane lane s
  | .setLane lane p => Sys2Proof.Machine.execSetLane lane p s
  | .setLink lane alternate => Sys2Proof.Machine.execSetLink lane alternate s
  | .restock lane count => Sys2Proof.Machine.execRestock lane count s
  | .retireLane lane => Sys2Proof.Machine.execRetireLane lane s
  | .clearLaneFault lane => Sys2Proof.Machine.execClearLaneFault lane s
  | .setWindow window p => Sys2Proof.Machine.execSetWindow window p s
  | .readWindow window => Sys2Proof.Machine.execReadWindow window s
  | .vend code => Sys2Proof.Machine.execVend code s
  | .testVend lane => Sys2Proof.Machine.execTestVend lane s
  | .homeLane lane => Sys2Proof.Machine.execHomeLane lane s
  | .readVendResult => Sys2Proof.Machine.execReadVendResult s
  | .grantCashless amount => Sys2Proof.Machine.execGrantCashless amount s
  | .cancel => Sys2Proof.Machine.execCancel s
  | .readSession => Sys2Proof.Machine.execReadSession s
  | .setAccept mode => Sys2Proof.Machine.execSetAccept mode s
  | .setCoinType type p => Sys2Proof.Machine.execSetCoinType type p s
  | .setTube tube p => Sys2Proof.Machine.execSetTube tube p s
  | .setTubeCount tube count => Sys2Proof.Machine.execSetTubeCount tube count s
  | .clearTubeFault tube => Sys2Proof.Machine.execClearTubeFault tube s
  | .setProbes p => Sys2Proof.Machine.execSetProbes p s
  | .readTubes => Sys2Proof.Machine.execReadTubes s
  | .dispense tube coins => Sys2Proof.Machine.execDispense tube coins s
  | .readPayoutResult => Sys2Proof.Machine.execReadPayoutResult s
  | .clearCashbox => Sys2Proof.Machine.execClearCashbox s
  | .setCooling p => Sys2Proof.Machine.execSetCooling p s
  | .readCooling => Sys2Proof.Machine.execReadCooling s
  | .releaseHold => Sys2Proof.Machine.execReleaseHold s
  | .startDefrost => Sys2Proof.Machine.execStartDefrost s
  | .setBudget p => Sys2Proof.Machine.execSetBudget p s
  | .readBudget => Sys2Proof.Machine.execReadBudget s
  | .enterQuiet => Sys2Proof.Machine.execEnterQuiet s
  | .wake => Sys2Proof.Machine.execWake s
  | .setWakeSources p => Sys2Proof.Machine.execSetWakeSources p s
  | .readSupply clear => Sys2Proof.Machine.execReadSupply clear s
  | .setMachine p => Sys2Proof.Machine.execSetMachine p s
  | .storeImage => Sys2Proof.Machine.execStoreImage s
  | .storeEnd failedAfter => Sys2Proof.Machine.execStoreEnd failedAfter s
  | .coinPresented type => Sys2Proof.Machine.execCoinPresented type s
  | .acceptSensorPulse => Sys2Proof.Machine.execAcceptSensorPulse s
  | .transitLimitExpiry => Sys2Proof.Machine.execTransitLimitExpiry s
  | .levelSensorTransition tube sensor covered => Sys2Proof.Machine.execLevelSensorTransition tube sensor covered s
  | .cassetteContactChange contact closed codePins => Sys2Proof.Machine.execCassetteContactChange contact closed codePins s
  | .payoutBudgetWaitExpiry => Sys2Proof.Machine.execPayoutBudgetWaitExpiry s
  | .payoutSensorPulse => Sys2Proof.Machine.execPayoutSensorPulse s
  | .payoutCoinLimitExpiry => Sys2Proof.Machine.execPayoutCoinLimitExpiry s
  | .sessionTimeoutExpiry => Sys2Proof.Machine.execSessionTimeoutExpiry s
  | .startLevelTaken level => Sys2Proof.Machine.execStartLevelTaken level s
  | .homeLevelChange level => Sys2Proof.Machine.execHomeLevelChange level s
  | .driveCurrentChange milliamps => Sys2Proof.Machine.execDriveCurrentChange milliamps s
  | .stallDebounceExpiry => Sys2Proof.Machine.execStallDebounceExpiry s
  | .openCheck milliamps => Sys2Proof.Machine.execOpenCheck milliamps s
  | .vendBudgetWaitExpiry => Sys2Proof.Machine.execVendBudgetWaitExpiry s
  | .tStartExpiry => Sys2Proof.Machine.execTStartExpiry s
  | .tCycleExpiry => Sys2Proof.Machine.execTCycleExpiry s
  | .runTimeExpiry => Sys2Proof.Machine.execRunTimeExpiry s
  | .dropSeen => Sys2Proof.Machine.execDropSeen s
  | .dropWindowClose => Sys2Proof.Machine.execDropWindowClose s
  | .thermistorSample channel reading => Sys2Proof.Machine.execThermistorSample channel reading s
  | .fallbackPhaseEnd => Sys2Proof.Machine.execFallbackPhaseEnd s
  | .startIntervalEnd => Sys2Proof.Machine.execStartIntervalEnd s
  | .minimumRunExpiry => Sys2Proof.Machine.execMinimumRunExpiry s
  | .minimumOffEnd => Sys2Proof.Machine.execMinimumOffEnd s
  | .accumulatedRunCount => Sys2Proof.Machine.execAccumulatedRunCount s
  | .maximumDefrostReached => Sys2Proof.Machine.execMaximumDefrostReached s
  | .dripEnd => Sys2Proof.Machine.execDripEnd s
  | .holdDelayReached => Sys2Proof.Machine.execHoldDelayReached s
  | .supplyEvent kind railMillivolts => Sys2Proof.Machine.execSupplyEvent kind railMillivolts s
  | .supplyCleared kind railMillivolts => Sys2Proof.Machine.execSupplyCleared kind railMillivolts s
  | .doorChange level => Sys2Proof.Machine.execDoorChange level s
  | .cellSample millivolts => Sys2Proof.Machine.execCellSample millivolts s
  | .powerFailWarning cellMillivolts => Sys2Proof.Machine.execPowerFailWarning cellMillivolts s
  | .rstNAssertion => Sys2Proof.Machine.execRstNAssertion s
  | .warmStart memoryFitted cellMillivolts inputs => Sys2Proof.Machine.execWarmStart memoryFitted cellMillivolts inputs s
  | .coldStart memoryFitted cellMillivolts inputs => Sys2Proof.Machine.execColdStart memoryFitted cellMillivolts inputs s
  | .imageLoad acknowledged inputs => Sys2Proof.Machine.execImageLoad acknowledged inputs s
  | .lrstNRelease => Sys2Proof.Machine.execLrstNRelease s

end Sys2Proof.Machine
end

