-- ==== Sys2Proof/WellFormed.lean ====
section
/-! DEFINITION. Which commands the part can be sent: a frame judged as its constructor says, a comparator event beyond
its threshold, a store that fails within its writes. Every other command is one the part can be sent whatever its
operands. -/
namespace Sys2Proof

/-- A frame is a FRAME_ERROR when R177 judges it so; a part byte has fewer than eight bits. -/
def isFrameError (bytes : List Byte) (partBits : Nat) : Bool :=
  decide (partBits < 8) && decide (decodeFrame bytes partBits = .frameError bytes partBits)

/-- A code that names no request of the request table (R177). -/
def isUnknownCode (code : Byte) : Bool := code != 0x00#8 && (requestLength code.toNat).isNone

/-- Well-formed commands. -/
def Instr.wf : Instr → Bool
  | .frameError bytes partBits => isFrameError bytes partBits
  | .unknownRequest code _ => isUnknownCode code
  | .supplyEvent kind mv => Machine.railAsserts kind mv
  | .supplyCleared kind mv => Machine.railClears kind mv
  | .storeEnd (some n) => decide (n < Machine.storeWrites)
  | .storeEnd none => true
  | .nop _ => true
  | .linkReset => true
  | .readAttention => true
  | .ackAttention _ => true
  | .setAttentionMask _ => true
  | .lookup _ => true
  | .readLane _ => true
  | .setLane _ _ => true
  | .setLink _ _ => true
  | .restock _ _ => true
  | .retireLane _ => true
  | .clearLaneFault _ => true
  | .setWindow _ _ => true
  | .readWindow _ => true
  | .vend _ => true
  | .testVend _ => true
  | .homeLane _ => true
  | .readVendResult => true
  | .grantCashless _ => true
  | .cancel => true
  | .readSession => true
  | .setAccept _ => true
  | .setCoinType _ _ => true
  | .setTube _ _ => true
  | .setTubeCount _ _ => true
  | .clearTubeFault _ => true
  | .setProbes _ => true
  | .readTubes => true
  | .dispense _ _ => true
  | .readPayoutResult => true
  | .clearCashbox => true
  | .setCooling _ => true
  | .readCooling => true
  | .releaseHold => true
  | .startDefrost => true
  | .setBudget _ => true
  | .readBudget => true
  | .enterQuiet => true
  | .wake => true
  | .setWakeSources _ => true
  | .readSupply _ => true
  | .setMachine _ => true
  | .storeImage => true
  | .coinPresented _ => true
  | .acceptSensorPulse => true
  | .transitLimitExpiry => true
  | .levelSensorTransition _ _ _ => true
  | .cassetteContactChange _ _ _ => true
  | .payoutBudgetWaitExpiry => true
  | .payoutSensorPulse => true
  | .payoutCoinLimitExpiry => true
  | .sessionTimeoutExpiry => true
  | .startLevelTaken _ => true
  | .homeLevelChange _ => true
  | .driveCurrentChange _ => true
  | .stallDebounceExpiry => true
  | .openCheck _ => true
  | .vendBudgetWaitExpiry => true
  | .tStartExpiry => true
  | .tCycleExpiry => true
  | .runTimeExpiry => true
  | .dropSeen => true
  | .dropWindowClose => true
  | .thermistorSample _ _ => true
  | .fallbackPhaseEnd => true
  | .startIntervalEnd => true
  | .minimumRunExpiry => true
  | .minimumOffEnd => true
  | .accumulatedRunCount => true
  | .maximumDefrostReached => true
  | .dripEnd => true
  | .holdDelayReached => true
  | .doorChange _ => true
  | .cellSample _ => true
  | .powerFailWarning _ => true
  | .rstNAssertion => true
  | .warmStart _ _ _ => true
  | .coldStart _ _ _ => true
  | .imageLoad _ _ => true
  | .lrstNRelease => true

end Sys2Proof
end

