-- ==== Sys2Proof/Safety.lean ====
section
/-! DEFINITION. What a safe run keeps: the laws that the spec states of the whole part, as predicates on its state. -/
namespace Sys2Proof.Machine

/-! ## Replies and frames -/

/-- The state `t` that a request gave, with its reply pending; the frame of `n` bytes that carried it to a part in the
state `s` has shifted out the reply before it (R176). -/
def State.answered (t s : State) (n : Nat) (code : Byte) (status : Status) (payload : List Byte) : State :=
  { t with
    port :=
      { t.port with
        pending := { status := status, code := code, payload := payload }, sdo := s.port.pending.shifted n,
        link := .ready } }

/-- The port takes a frame: the part runs and LRST_N is not low (R178, R179). -/
def State.TakesFrames (s : State) : Prop := s.supply.power = .running ∧ s.port.link ≠ .held

/-- `t` differs from `s` only in what the grants, the operations and the payouts move. -/
structure State.Kept (s t : State) : Prop where
  windows : t.lanes.windows = s.lanes.windows
  coins : t.coins = s.coins
  machine : t.machine = s.machine
  supply : t.supply = s.supply
  image : t.image = s.image
  pending : t.pending = s.pending
  settings : t.cooling.settings = s.cooling.settings
  cabinet : t.cooling.cabinet = s.cooling.cabinet
  coil : t.cooling.coil = s.cooling.coil
  call : t.cooling.call = s.cooling.call
  fallback : t.cooling.fallback = s.cooling.fallback
  hold : t.cooling.hold = s.cooling.hold
  holdTimer : t.cooling.holdTimer = s.cooling.holdTimer
  probes : t.tubes.probes = s.tubes.probes
  cassette : t.tubes.cassette = s.tubes.cassette
  contactFirst : t.tubes.contactFirst = s.tubes.contactFirst
  contactSecond : t.tubes.contactSecond = s.tubes.contactSecond
  cassetteCode : t.tubes.cassetteCode = s.tubes.cassetteCode
  payoutDemand : t.arbiter.payoutDemand = s.arbiter.payoutDemand
  startDemand : t.arbiter.startDemand = s.arbiter.startDemand
  runDemand : t.arbiter.runDemand = s.arbiter.runDemand
  defrostDemand : t.arbiter.defrostDemand = s.arbiter.defrostDemand
  fair : t.arbiter.fair = s.arbiter.fair
  releaseMode : t.arbiter.releaseMode = s.arbiter.releaseMode
  reply : t.port.pending = s.port.pending
  sdo : t.port.sdo = s.port.sdo
  mask : t.port.mask = s.port.mask
  link : t.port.link = s.port.link
  flags : t.port.flags ||| s.port.flags = t.port.flags

/-! ## Lanes -/

/-- The stock of a counted lane stays within 0 to its capacity (R2). -/
def Stock.Lawful : Stock → Prop
  | .counted stock cap => stock ≤ cap
  | .uncounted _ => True

/-- A record's stock is within its capacity (R2), and its alternate names neither the lane itself nor an UNFITTED lane
(R18). -/
def State.LaneLawful (s : State) (l : LaneNo) : Prop :=
  match s.lane l with
  | none => True
  | some f =>
    f.stock.Lawful ∧
      match f.alternate with
      | none => True
      | some a => a ≠ l ∧ (s.lane a).isSome = true

/-- The number of FAULTED records. -/
def LaneTable.countFaulted (t : LaneTable) : Nat := (t.records.toList.filter isFaulted).length

/-- The Lane Table's laws: R2 and R18 for every lane, and the count of faulted lanes (R3, R5), which is 0 while a cold
start reads the image. -/
def State.LanesLawful (s : State) : Prop :=
  (∀ l, s.LaneLawful l) ∧ s.lanes.faultedCount = s.lanes.countFaulted ∧
    (s.supply.power = .loading → s.lanes.faultedCount = 0)

/-! ## Budget -/

/-- The sum of granted amounts never exceeds the effective budget (R161); a pending budget lies below it (R164). -/
def Arbiter.WithinBudget (a : Arbiter) : Prop :=
  a.table.allocation ≤ a.budget ∧ a.limit ≤ a.budget

/-! ## Cooling -/

/-- Whether the compressor is in one of its OFF states. -/
def CompressorState.isOff : CompressorState → Bool
  | .offResting => true
  | .offIdle => true
  | _ => false

/-- From PAUSED on the compressor is in its OFF states, and a waiting compressor has no defrost in progress (R146,
R151): what keeps the compressor relay and the heater apart (R148). -/
def Cooling.Apart (c : Cooling) : Prop :=
  ((c.defrost = .paused ∨ c.defrost = .heating ∨ c.defrost = .dripping) → c.compressor.isOff = true) ∧
    (c.compressor = .waitBudget → c.defrost = .none)

/-! ## Tubes -/

/-- Committed never exceeds count on any tube, and is 0 on every tube while there is no payout order (R44). -/
def State.CommitmentsLawful (s : State) : Prop :=
  (∀ t, (s.tube t).committed ≤ (s.tube t).count) ∧
    (s.payout.order = none → ∀ t, (s.tube t).committed = 0)

/-! ## Money -/

/-- R98 and R99: in the current session each side's credit and escrow are what its Session Record says. -/
def Session.Conserved (c : Session) : Prop :=
  c.coin + c.escrowCoin + c.record.coinSales + c.record.paid = c.record.accepted ∧
    c.cashless + c.escrowCashless + c.record.cashlessUsed + c.record.cashlessReturned = c.record.cashlessGranted

/-- The escrow parts are non-zero only in VENDING (R95), cashless credit is 0 in PAYING, and all credit is 0 in IDLE. -/
def Session.Settled (c : Session) : Prop :=
  (c.state ≠ .vending → c.escrowCoin = 0 ∧ c.escrowCashless = 0) ∧
    (c.state = .paying → c.cashless = 0) ∧
    (c.state = .idle → c.coin = 0 ∧ c.cashless = 0) ∧
    (c.cancelPending = true → c.state = .vending) ∧
    (c.timer.isSome = true → c.state = .opened)

/-- What the credit and the coin in transit come to, against the ceiling (R100). -/
def State.exposure (s : State) : Nat := s.session.total + s.transitValue

/-- The vend in flight and the session agree: the session is VENDING exactly while a VEND is in flight (R95), a vend
accepted in IDLE has no cashless credit to settle (R103), and a drop has emptied the escrow (R105). -/
def State.VendAgrees (s : State) : Prop :=
  match s.vend.context with
  | none => s.session.state ≠ .vending
  | some c =>
    (c.kind = .vend ↔ s.session.state = .vending) ∧
      (c.kind = .vend → c.fromIdle = true → s.session.cashless = 0 ∧ s.session.escrowCashless = 0) ∧
      (c.kind = .vend → c.dropSeen.isSome = true → s.session.escrowCoin = 0 ∧ s.session.escrowCashless = 0)

/-- The payout and the session agree: the session is PAYING exactly while a SESSION order exists or is held behind a
DISPENSE order (R80, R110), a SESSION order plans no more than is unpaid, what is unpaid is within the coin credit
(R85), and its awaited coin is still in the plan. -/
def State.PayoutAgrees (s : State) : Prop :=
  match s.payout.order with
  | none => s.payout.held = false ∧ s.session.state ≠ .paying
  | some o =>
    match o.source with
    | .session =>
      s.payout.held = false ∧ s.session.state = .paying ∧ o.dispensed = none ∧ o.paid ≤ o.asked ∧
        o.paid + s.tubes.planValue o.plan ≤ o.asked ∧ o.asked - o.paid ≤ s.session.coin ∧
        ∀ a, o.awaited = some a → o.plan[a.tube] ≠ 0
    | .dispense => (s.payout.held = true ↔ s.session.state = .paying)

/-- The money laws: conservation (R98, R99) in every state, and while the part runs the agreement of the blocks that
move the money. -/
def State.MoneyLawful (s : State) : Prop :=
  s.session.Conserved ∧ (s.isRunning = true → s.session.Settled ∧ s.VendAgrees ∧ s.PayoutAgrees)

/-- The state after a settlement (R103): the cashless credit goes to cashless returned and CASHLESS_SETTLED is set, but
for a session with no cashless granted. -/
def State.settled (s : State) : State :=
  if s.session.record.cashlessGranted = 0 then s
  else
    { s with
      session :=
        { s.session with
          cashless := 0
          record :=
            { s.session.record with
              cashlessReturned := s.session.record.cashlessReturned + s.session.cashless } }
      port := { s.port with flags := s.port.flags ||| Flag.cashlessSettled.word } }

/-- A timer of the session timeout now set, started afresh; none for a timeout of 0 (R112). -/
def State.freshTimeout (s : State) : Option Timer :=
  if s.machine.sessionTimeout = 0 then none else some { elapsed := 0, limit := s.machine.sessionTimeout * 1000 }

/-- The last-activity timer as an activity in OPEN leaves it (R112): started afresh, and with the mark that an expiry of a
timer which was due does not take place (R113, log entry 31). -/
def State.restartedTimeout (s : State) : Option Timer :=
  s.freshTimeout.map fun t =>
    { t with
      overtaken :=
        match s.session.timer with | some old => decide (old.limit ≤ old.elapsed) || old.overtaken | none => false }

/-- The coins of a plan committed on their tubes (R44), with the exact-change evaluation that follows. -/
def State.committing (s : State) (plan : Vector Nat 6) : State :=
  State.evaluateExact
    { s with tubes :=
        { s.tubes with tubes := Vector.ofFn fun n : Fin 6 => { s.tubes.tubes[n] with committed := plan[n] } } }

/-- A new order that has planned a coin waits: it exists with its budget wait running, its PAYOUT request waits with the
PAYOUT demand, and an evaluation follows (R83). -/
def State.waiting (s : State) (o : Order) : State :=
  State.evaluate
    { s with
      payout :=
        { s.payout with
          order := some { o with budgetWait := some { elapsed := 0, limit := s.machine.budgetWait } } }
      arbiter :=
        { s.arbiter with table := { s.arbiter.table with payout := .waiting s.arbiter.payoutDemand } } }

/-- A new order of the given source and amount with its plan, nothing paid yet (R81, R82). -/
def newOrder (source : PayoutSource) (asked : Nat) (dispensed : Option (TubeNo × Nat)) (plan : Vector Nat 6)
    (dipped : Bool) : Order :=
  { source := source, asked := asked, dispensed := dispensed, plan := plan, reserveDipped := dipped,
    paidPerTube := Vector.replicate 6 0, paid := 0, state := .waitGrant, awaited := none, replanDue := false,
    budgetWait := none }

/-! ## Planning -/

/-- The value of the coins given to the tubes of a planning order. -/
def valueOf (ts : List PlanTube) (coins : List Nat) : Nat := ((ts.zip coins).map fun p => p.2 * p.1.value).sum

/-- `ts` are the configured tubes in the planning order, the highest value first and the lowest number among equals, with
their usable counts in pass R (`keep`) or pass F (R75). -/
def TubeTable.PlanningOrder (tt : TubeTable) (keep : Bool) (ts : List PlanTube) : Prop :=
  ts.Pairwise (fun x y => y.value < x.value ∨ (x.value = y.value ∧ x.tube < y.tube)) ∧
    ∀ x : PlanTube,
      x ∈ ts ↔
        x.value = tt.tubes[x.tube].value ∧ x.value ≠ 0 ∧
          x.usable =
            if keep then tt.tubes[x.tube].basis - tt.tubes[x.tube].reserve else tt.tubes[x.tube].basis

/-- `coins` is the greedy fill of an amount over tubes in order: each tube is given the whole coins that fit in what
remains, up to its usable count (R76). -/
def GreedyFill (ts : List PlanTube) (a : Nat) (coins : List Nat) : Prop :=
  coins.length = ts.length ∧
    ∀ (before after : List PlanTube) (t : PlanTube), ts = before ++ t :: after →
      coins[before.length]? = some (min ((a - valueOf before coins) / t.value) t.usable)

/-- `trial` is the back-off trial of a fill at the tube in place `j`, which the fill gave a coin: the tubes before it keep
their coins, it has one fewer, and the tubes after it are filled greedily (R77). -/
def BackOffTrial (ts : List PlanTube) (a : Nat) (fill : List Nat) (j : Nat) (trial : List Nat) : Prop :=
  ∃ (before after : List PlanTube) (t : PlanTube) (n : Nat) (rest : List Nat),
    ts = before ++ t :: after ∧ before.length = j ∧ fill[j]? = some (n + 1) ∧
      trial = fill.take j ++ n :: rest ∧ GreedyFill after (a - valueOf before fill - n * t.value) rest

/-- `cs` are the greedy fill of a pass and its back-off trials, one for each tube that the fill gave a coin, in the
planning order (R77). -/
def PassCandidates (ts : List PlanTube) (a : Nat) (cs : List (List Nat)) : Prop :=
  ∃ (fill : List Nat) (trials : List (List Nat)) (places : List Nat),
    cs = fill :: trials ∧ GreedyFill ts a fill ∧ places.Pairwise (· < ·) ∧
      (∀ j, j ∈ places ↔ ∃ n, fill[j]? = some (n + 1)) ∧ trials.length = places.length ∧
      ∀ (k j : Nat) (trial : List Nat), places[k]? = some j → trials[k]? = some trial → BackOffTrial ts a fill j trial

/-- `c` is the first of the candidates that pays the amount exactly (R77). -/
def FirstExact (ts : List PlanTube) (a : Nat) (cs : List (List Nat)) (c : List Nat) : Prop :=
  ∃ before after : List (List Nat),
    cs = before ++ c :: after ∧ valueOf ts c = a ∧ ∀ b ∈ before, valueOf ts b ≠ a

/-- `c` is the candidate that leaves the least unpaid, the earliest of those that leave as little (R78). -/
def BestOf (ts : List PlanTube) (cs : List (List Nat)) (c : List Nat) : Prop :=
  ∃ before after : List (List Nat),
    cs = before ++ c :: after ∧ (∀ b ∈ before, valueOf ts b < valueOf ts c) ∧ ∀ b ∈ after, valueOf ts b ≤ valueOf ts c

/-- A plan gives the tubes of a planning order these coins. -/
def Plan.Gives (p : Plan) (ts : List PlanTube) (coins : List Nat) : Prop :=
  ∀ (i : Nat) (x : PlanTube), ts[i]? = some x → coins[i]? = some p.coins[x.tube]

/-! ## Drives -/

/-- A lane is driven only for an operation in flight, on its current lane, while the VEND entry is GRANTED and the supply
condition absent, with the marker naming it; with no lane driven the marker is clear (R25, R39). -/
def State.DriveLawful (s : State) : Prop :=
  match s.drive.context with
  | none =>
    s.drive.marker = none ∧
      match s.vend.context with
      | none => True
      | some c => c.phase = .waitGrant ∨ c.phase = .afterStop
  | some d =>
    s.drive.marker = some d.lane ∧ s.supplyCondition = false ∧ s.arbiter.table.vend.isGranted = true ∧
      match s.vend.context with
      | none => False
      | some c => c.current = d.lane ∧ (c.phase = .homing ∨ c.phase = .turning)

/-- The operation's own order: a waiting one has its request in the Grant Table, its budget wait running, its window
closed and no run made; its run limits run only while its lane is driven, then with its window open and no closing time fixed when drop
sensing is ON; a window with a closing time is open only while it is not; no operation, no VEND entry. -/
def State.VendLawful (s : State) : Prop :=
  match s.vend.context with
  | none => s.arbiter.table.vend = .idle
  | some c =>
    (∀ l ∈ c.chain, (s.lane l).isSome = true) ∧ c.current ∈ c.chain ∧
      match c.phase with
      | .waitGrant =>
        (∃ d, s.arbiter.table.vend = .waiting d) ∧ c.budgetWait.isSome = true ∧ c.window = .closed ∧
          c.supplyAborted = false ∧ c.tStart = none ∧ c.tCycle = none ∧ c.runTime = none ∧ c.dropSeen = none ∧
          c.motionBegun = false ∧ c.turnsMade = 0
      | .afterStop =>
        (∃ t, c.window = .opened (some t)) ∧ c.budgetWait = none ∧ c.tStart = none ∧ c.tCycle = none ∧
          c.runTime = none ∧ c.dropSeen = none ∧ (∀ d, s.arbiter.table.vend ≠ .waiting d)
      | _ =>
        c.budgetWait = none ∧ (∀ t, c.window ≠ .opened (some t)) ∧ c.supplyAborted = false ∧
          (c.inForce.dropSensing = true → c.window = .opened none)

/-- The state as a VEND finds it once its activity has restarted the last-activity timer of an OPEN session (R112,
R117). -/
def State.afterVendActivity (s : State) : State :=
  { s with session :=
      { s.session with
        timer := if s.session.state = .opened then s.restartedTimeout else s.session.timer } }

/-- The context that a service request on one lane begins with (R121, R138, R139). -/
def State.serviceContext (s : State) (kind : OpKind) (l : LaneNo) : VendContext :=
  { kind := kind, code := none, chosen := l, price := 0, chain := [l], current := l, phase := .waitGrant,
    retriesLeft := s.machine.retries, motionBegun := false, driveBounceUsed := false, window := .closed,
    dropSeen := none, leaveCause := none, limitCause := none, supplyAborted := false,
    inForce :=
      { tStart := s.machine.tStart, tCycle := s.machine.tCycle, tDrop := s.machine.tDrop, retries := s.machine.retries,
        dropSensing := s.machine.dropSensing, budgetWait := s.machine.budgetWait },
    turnsMade := 0, availBounces := 0, driveBounces := 0, fromIdle := decide (s.session.state = .idle),
    budgetWait := some { elapsed := 0, limit := s.machine.budgetWait }, tStart := none, tCycle := none, runTime := none }

/-- The drive a switch-on begins (R26): the lane's duty, 0.2 A for each unit of its demand as the stall threshold, and
nothing yet measured or seen. -/
def FittedLane.freshDrive (f : FittedLane) (l : LaneNo) : DriveContext :=
  { lane := l, duty := f.duty, stallThreshold := 200 * f.demand,
    stopCondition := (match f.motor with | .homed _ => .atHome | .timed _ => .commanded), current := .normal,
    homeLevel := none, homeOpened := false, openCheckPassed := false, stallDebounce := none }

/-- What STARTED makes of a context (R123, R127): motion begun, the phase, the window, the turn counted and the limits
of the run. -/
def VendContext.underway (c : VendContext) (homing : Bool) (m : Motor) : VendContext :=
  { c with
    motionBegun := true
    phase := if homing then .homing else .turning
    window :=
      match c.window with
      | .closed => if c.inForce.dropSensing then .opened none else .closed
      | w => w
    turnsMade := if homing then c.turnsMade else c.turnsMade + 1
    limitCause := none
    tStart :=
      match m with
      | .homed _ => if homing then none else some { elapsed := 0, limit := c.inForce.tStart }
      | .timed _ => none
    tCycle :=
      match m with
      | .homed _ => some { elapsed := 0, limit := c.inForce.tCycle }
      | .timed _ => if homing then some { elapsed := 0, limit := c.inForce.tCycle } else none
    runTime :=
      match m with
      | .homed _ => none
      | .timed r => if homing then none else some { elapsed := 0, limit := r } }

/-- A lane whose drive has failed with a cause (R31, R131), with no operation's context changed: the record FAULTED with
its motor as `m`, counted when it was ACTIVE, LANE_FAULT set, and the lane switched off. -/
def State.faultedLane (s : State) (l : LaneNo) (f : FittedLane) (m : Motor) (cause : FaultCause) : State :=
  { s.setLane l (some { f with fault := some cause, motor := m }) with
    lanes :=
      { (s.setLane l (some { f with fault := some cause, motor := m })).lanes with
        faultedCount := s.lanes.faultedCount + (if f.fault = none then 1 else 0) }
    port := { s.port with flags := s.port.flags ||| Flag.laneFault.word }
    drive := { context := none, marker := none } }

/-- A drive of lane `l`, with the record `f`, that failed with a cause while its window was open and no drop had been seen
(R31, R131): the lane is FAULTED and switched off, and the operation `c` waits in its window to leave it. -/
def State.failedDrive (s : State) (c : VendContext) (l : LaneNo) (f : FittedLane) (m : Motor) (cause : FaultCause) :
    State :=
  { s.faultedLane l f m cause with
    vend :=
      { s.vend with
        context :=
          some
            { c with
              phase := .afterStop, leaveCause := some .drive, limitCause := none, tStart := none, tCycle := none
              runTime := none, window := .opened (some { elapsed := 0, limit := c.inForce.tDrop }) } } }

/-- Whether a limit was due, or had itself replaced one that was, with no time passed since (log entry 31). -/
def limitSpent : Option Timer → Bool
  | some t => decide (t.limit ≤ t.elapsed) || t.overtaken
  | none => false

/-- The limits of a run that the end of another has started, with the mark that the other's own, given here, were due
(R35, log entry 31). -/
def State.withLimitsOver (s : State) (tStart tCycle runTime : Option Timer) : State :=
  { s with
    vend :=
      { s.vend with
        context :=
          s.vend.context.map fun c =>
            { c with
              tStart := c.tStart.map fun t => { t with overtaken := t.overtaken || limitSpent tStart }
              tCycle := c.tCycle.map fun t => { t with overtaken := t.overtaken || limitSpent tCycle }
              runTime := c.runTime.map fun t => { t with overtaken := t.overtaken || limitSpent runTime } } } }

/-- The drive that the end of the drive `d` has started, with the marks that a closed edge or an open check of `d` that
arrived together with its end is not seen, or not made (R35, log entry 31). -/
def State.withDriveOver (s : State) (d : DriveContext) : State :=
  { s with
    drive :=
      { s.drive with
        context :=
          s.drive.context.map fun e =>
            { e with
              edgeOver := decide (d.stopCondition = .atHome ∧ d.homeOpened = true ∧ d.homeLevel = some .opened)
              checkOver := !d.openCheckPassed } } }

/-- The context that the close of a window leaves, with the mark that a drop which arrived together with a close that was
due is ignored (R128, log entry 31). -/
def State.withDropOver (s : State) (due : Bool) : State :=
  { s with
    vend := { s.vend with context := s.vend.context.map fun c => { c with afterClose := c.afterClose || due } } }

/-- The last-activity timer with the mark that an expiry of a timer which was due does not take place (R113, log entry
31). -/
def State.withTimeoutOver (s : State) (old : Option Timer) : State :=
  { s with
    session :=
      { s.session with timer := s.session.timer.map fun t => { t with overtaken := t.overtaken || limitSpent old } } }

/-! ## The end of an operation -/

/-- `t` is what a CANCEL acted on as in OPEN makes of `u` (R109): a settlement, which a vend accepted in IDLE does not
make (R103), then IDLE with no coin credit, and with some a payout, held behind an order that exists (R80). -/
def State.CancelActs (u : State) (settles : Bool) (t : State) : Prop :=
  ∀ w : State, w = (if settles then u.settled else u) →
    (w.session.coin = 0 → t = { w with session := { w.session with state := .idle, timer := none } }) ∧
    (0 < w.session.coin → ∀ p : State,
      p = { w with session := { w.session with state := .paying, timer := none } } →
      (w.payout.order ≠ none → t = { p with payout := { p.payout with held := true } }) ∧
      (w.payout.order = none → t = p.createSessionOrder State.evaluate))

/-- `t` is what the end of a VEND makes of `u`, the state it is handed over in (R106, R107, R108): a FAILED or ABORTED one
first returns its escrow by its parts; a pending cancel is acted on, and a VENDED one in SINGLE mode is closed like one;
otherwise the session is OPEN with credit left and IDLE with none. -/
def State.VendEndMoves (u : State) (outcome : VendOutcome) (fromIdle : Bool) (t : State) : Prop :=
  ∀ w : State,
    (outcome = .vended → w = u) →
    (outcome ≠ .vended →
      w = { u with
            session :=
              { u.session with
                coin := u.session.coin + u.session.escrowCoin
                cashless := u.session.cashless + u.session.escrowCashless, escrowCoin := 0, escrowCashless := 0 } }) →
    (outcome = .vended ∧ u.machine.vendMode = .single ∨ u.session.cancelPending = true →
      State.CancelActs { w with session := { w.session with cancelPending := false } } (!fromIdle) t) ∧
    (outcome ≠ .vended ∨ u.machine.vendMode = .multi → u.session.cancelPending = false →
      ∀ left : Bool, (left = true ↔ 0 < w.session.coin ∨ 0 < w.session.cashless) →
        t = { w with
              session :=
                { w.session with
                  state := if left then .opened else .idle, timer := if left then w.freshTimeout else none } })

/-- `t` is what the end of the operation `c` in `s` leaves (R133, R134): the context gone, the VEND entry IDLE, the record
written and VEND_DONE set, with no lane, drive or credit changed; and then, for a VEND alone, the session moved. -/
def State.Ends (s : State) (c : VendContext) (outcome : VendOutcome) (reason : Option VendReason) (t : State) : Prop :=
  ∃ u : State, s.Kept u ∧ u.lanes = s.lanes ∧ u.drive = s.drive ∧ u.session = s.session ∧
    u.arbiter.table.vend = .idle ∧ u.port.isSet .vendDone = true ∧
    u.vend =
      { context := none
        result :=
          some
            { kind := c.kind, code := c.code, chosen := c.chosen, vended := c.dropSeen, outcome := outcome,
              reason := reason, price := c.price, turnsMade := c.turnsMade, availBounces := c.availBounces,
              driveBounces := c.driveBounces } } ∧
    (c.kind ≠ .vend → t = u) ∧ (c.kind = .vend → u.VendEndMoves outcome c.fromIdle t)

/-- `t` is what leaving the current lane with a cause makes of `s`, in which the operation is `c` and no lane is driven
(R132): after the drive bounce the end FAILED with the leave cause; otherwise the first run on the first later lane of
the chain that is available, the lanes passed over counted, and with none the end FAILED, with reason HELD when lanes
remained and every one was held. -/
def State.LeavesLane (s : State) (c : VendContext) (cause : LeaveCause) (t : State) : Prop :=
  (c.motionBegun = true → c.driveBounceUsed = true → s.Ends c .failed (some cause.reason) t) ∧
  (c.motionBegun = false ∨ c.driveBounceUsed = false →
    ∀ (before later : List LaneNo) (own : Nat), c.chain = before ++ c.current :: later → c.current ∉ before →
      own = (if c.motionBegun then 0 else 1) →
      ((∀ l ∈ later, s.unavailable l ≠ none) → ∀ reason : VendReason,
        (later ≠ [] ∧ (∀ l ∈ later, s.unavailable l = some .held) → reason = .held) →
        (later = [] ∨ (∃ l ∈ later, s.unavailable l ≠ some .held) → reason = cause.reason) →
        s.Ends { c with availBounces := c.availBounces + own + later.length } .failed (some reason) t) ∧
      (∀ (passed rest : List LaneNo) (l : LaneNo) (g : FittedLane), later = passed ++ l :: rest →
        (∀ p ∈ passed, s.unavailable p ≠ none) → s.unavailable l = none → s.lane l = some g →
        t = { s with
              drive := { context := some (g.freshDrive l), marker := some l }
              vend :=
                { s.vend with
                  context :=
                    some
                      (VendContext.underway
                        { c with
                          window := .closed, current := l, retriesLeft := c.inForce.retries, leaveCause := none
                          availBounces := c.availBounces + own + passed.length
                          driveBounceUsed := c.driveBounceUsed || c.motionBegun
                          driveBounces := if c.motionBegun then 1 else c.driveBounces }
                        (decide (c.kind = .homeLane ∨ g.motor = .homed .offHome)) g.motor) } }))

/-! ## The end of an order -/

/-- What the end of the order `o` makes of the session `e` (R111): a SESSION order's leaves it OPEN with a fresh
last-activity timer, or IDLE with no coin credit; a DISPENSE order's leaves it. -/
def Order.LeavesSession (o : Order) (fresh : Option Timer) (e e' : Session) : Prop :=
  (o.source = .dispense → e' = e) ∧
    (o.source = .session →
      e' = { e with state := if e.coin = 0 then .idle else .opened, timer := if e.coin = 0 then none else fresh })

/-- `w` is what the end of the order `o` with a cause makes of `s` (R90, R93), before a held session payout is released:
the order gone, every commitment released, the PAYOUT entry IDLE, the record written, the flags set, and the session
moved from `e` for a SESSION order alone (R111). The evaluation that follows the release may grant a VEND in flight whose
lanes are all held: it ends FAILED while the order still exists, and the session is first moved by that end (R106, R132,
R133). -/
structure State.OrderEnded (s : State) (o : Order) (e : Session) (cause : PayoutCause) (w : State) : Prop where
  kept : s.Kept w
  order : w.payout.order = none
  entry : w.arbiter.table.payout = .idle
  committed : ∀ k, (w.tube k).committed = 0
  record :
    w.payout.record =
      some
        { source := o.source, asked := o.asked, paid := o.paid, shortfall := o.asked - o.paid, perTube := o.paidPerTube,
          cause := cause }
  done : w.port.isSet .payoutDone = true
  short : 0 < o.asked - o.paid → w.port.isSet .shortPay = true
  alone :
    (∀ c, s.vend.context = some c → c.kind = .vend → w.vend.context ≠ none) →
      w.payout.held = s.payout.held ∧ o.LeavesSession s.freshTimeout e w.session
  vendEnded :
    ∀ c, s.vend.context = some c → c.kind = .vend → w.vend.context = none →
      ∃ p q : State, p.session = e ∧ p.machine = s.machine ∧ p.payout.order ≠ none ∧ p.payout.held = s.payout.held ∧
        p.VendEndMoves .failed c.fromIdle q ∧ w.payout.held = q.payout.held ∧
        o.LeavesSession s.freshTimeout q.session w.session

/-- The state after an order's end in `w`: a session payout held behind the order is now created (R80, R90 step 7). -/
def State.heldReleased (w : State) : State :=
  if w.payout.held then State.createSessionOrder State.evaluate { w with payout := { w.payout with held := false } }
  else w

/-! ## What the thermostat, the compressor and the defrost do -/

/-- The thermostat's call for a filtered temperature, with the given effective setpoint (R144). -/
def State.CallFor (s : State) (setpoint : Int) (filtered : Option Int) (call : Bool) : Prop :=
  (filtered = none → call = false) ∧
    ∀ x, filtered = some x →
      (setpoint + s.cooling.settings.differential ≤ x → call = true) ∧
        (x < setpoint + s.cooling.settings.differential → x ≤ setpoint → call = false) ∧
        (x < setpoint + s.cooling.settings.differential → setpoint < x → call = s.cooling.call)

/-- The Budget Arbiter with the table `g` that a release or a withdrawal left (R162, R164): a pending budget becomes the
effective one once the allocation is within it. -/
def Arbiter.released (a : Arbiter) (g : GrantTable) : Arbiter :=
  { a with
    table := g, budget := if g.allocation ≤ a.limit then a.limit else a.budget
    pendingBudget := if g.allocation ≤ a.limit then none else a.pendingBudget }

/-- A compressor called to run asks for its grant (R146): WAIT_BUDGET, its request waiting at the start demand with the
run demand recorded. -/
def State.compressorAsking (s : State) : State :=
  { s with
    cooling := { s.cooling with compressor := .waitBudget }
    arbiter :=
      { s.arbiter with
        table :=
          { s.arbiter.table with
            compressor := .waiting s.arbiter.startDemand, compressorRun := s.arbiter.runDemand } } }

/-- A waiting compressor that is no longer called to run (R146): OFF_IDLE, its request withdrawn. -/
def State.compressorWithdrawn (s : State) : State :=
  { s with
    cooling := { s.cooling with compressor := .offIdle }
    arbiter := s.arbiter.released { s.arbiter.table with compressor := .idle } }

/-- A compressor that stops (R147): OFF_RESTING with a full minimum off, its grant released, no yield held (R150). What
was counted of a second of running is dropped (log entry 30). -/
def State.compressorStopped (s : State) : State :=
  { s with
    cooling :=
      { s.cooling with
        compressor := .offResting
        minimumOff := some { elapsed := 0, limit := s.cooling.settings.minimumOff * 1000 }
        startInterval := none, minimumRun := none, yieldHeld := false, runPhase := 0 }
    arbiter := s.arbiter.released { s.arbiter.table with compressor := .idle } }

/-- A due defrost with the compressor off (R151): PAUSED, its request waiting at the defrost demand. -/
def State.defrostAsking (s : State) : State :=
  { s with
    cooling := { s.cooling with defrost := .paused }
    arbiter := { s.arbiter with table := { s.arbiter.table with defrost := .waiting s.arbiter.defrostDemand } } }

/-- `t` is what a compressor stop makes of `v` (R147, R162), in which the compressor holds its grant: the evaluation of the
release, in `w`, and then a defrost that is PENDING is PAUSED and asks (R151). -/
def State.CompressorStops (v t : State) : Prop :=
  v.arbiter.table.compressor ≠ .idle → ∀ w : State, w = v.compressorStopped.evaluate →
    (w.cooling.defrost ≠ .pending → t = w) ∧
    (w.cooling.defrost = .pending → w.arbiter.table.defrost = .idle → t = w.defrostAsking.evaluate)

/-- `t` is what the compressor's answer to its call, to cooling enabled and to the defrost state makes of `v` (R146, R147,
R149). -/
def State.CompressorAnswers (v t : State) : Prop :=
  ∀ called wanted : Prop, (wanted ↔ v.cooling.call = true ∧ v.cooling.settings.enabled = true) →
    (called ↔ wanted ∧ v.cooling.defrost = .none) →
    (v.cooling.compressor = .offResting → t = v) ∧
    (v.cooling.compressor = .offIdle → ¬called → t = v) ∧
    (v.cooling.compressor = .offIdle → called → v.arbiter.table.compressor = .idle → t = v.compressorAsking.evaluate) ∧
    (v.cooling.compressor = .waitBudget → called → t = v) ∧
    (v.cooling.compressor = .waitBudget → ¬called → v.arbiter.table.compressor ≠ .idle →
      t = v.compressorWithdrawn.evaluate) ∧
    (v.cooling.compressor = .starting ∨ v.cooling.compressor = .running →
      (wanted ∨ v.cooling.minimumRun ≠ none → t = v) ∧
      (¬wanted → v.cooling.minimumRun = none → v.CompressorStops t))

/-- `t` is what the thermostat's or the fallback cycle's call makes of `s`: a call that changes is answered by the
compressor (R144, R145). -/
def State.CallTaken (s : State) (call : Bool) (t : State) : Prop :=
  (call = s.cooling.call → t = s) ∧
    (call ≠ s.cooling.call →
      State.CompressorAnswers { s with cooling := { s.cooling with call := call } } t)

/-- `t` is what a defrost that becomes due in NONE makes of `v` (R151), `p` being PENDING with the defrost timer at 0: with
the compressor off it asks for its grant at once, from WAIT_BUDGET after the compressor's withdrawal, after minimum run
it stops the compressor, and before that it waits. -/
def State.DefrostDue (v t : State) : Prop :=
  ∀ p : State, p = { v with cooling := { v.cooling with defrost := .pending, defrostTimer := 0 } } →
    (v.cooling.compressor = .offResting ∨ v.cooling.compressor = .offIdle → v.arbiter.table.defrost = .idle →
      t = p.defrostAsking.evaluate) ∧
    (v.cooling.compressor = .waitBudget → v.arbiter.table.compressor ≠ .idle →
      ∀ w : State, w = p.compressorWithdrawn.evaluate → w.arbiter.table.defrost = .idle →
        t = w.defrostAsking.evaluate) ∧
    (v.cooling.compressor = .starting ∨ v.cooling.compressor = .running →
      (v.cooling.minimumRun ≠ none → t = p) ∧ (v.cooling.minimumRun = none → p.CompressorStops t))

/-- A defrost whose heating ends (R153): DRIPPING with the drip in force, its grant released. -/
def State.heatingEnded (x : State) : State :=
  { x with
    cooling :=
      { x.cooling with
        defrost := .dripping, drip := some { elapsed := 0, limit := x.cooling.settings.drip * 60000 } }
    arbiter := x.arbiter.released { x.arbiter.table with defrost := .idle } }

/-- A defrost whose drip ends (R153): NONE, with the accumulated run at 0. -/
def State.defrostOver (z : State) : State :=
  { z with cooling := { z.cooling with defrost := .none, drip := none, accumulatedRun := 0 } }

/-- `y` is what the end of heating makes of `x`, in which the defrost holds its grant (R153): the evaluation of the
release, and a drip of 0 ends at once, with the compressor's answer. -/
def State.HeatingEnds (x y : State) : Prop :=
  x.arbiter.table.defrost ≠ .idle →
    (x.cooling.settings.drip ≠ 0 → y = x.heatingEnded.evaluate) ∧
    (x.cooling.settings.drip = 0 → x.heatingEnded.evaluate.defrostOver.CompressorAnswers y)

/-- `t` is what new settings make of `x` once the thermostat, the hold and the defrost interval have been applied (R143):
heating that has reached the maximum defrost ends, and the compressor answers cooling enabled. -/
def State.SettingsAnswered (x t : State) : Prop :=
  ∀ long : Prop,
    (long ↔ x.cooling.defrost = .heating ∧ x.cooling.settings.maximumDefrost * 60000 ≤ x.cooling.defrostTimer) →
    (¬long → x.CompressorAnswers t) ∧ (long → ∃ y, x.HeatingEnds y ∧ y.CompressorAnswers t)

/-- The hold after an evaluation of its condition (R155), from the hold `h` with its timer at `n`. -/
def HoldAfter (condition : Bool) (h : HoldState) (n : Nat) (h' : HoldState) (n' : Nat) : Prop :=
  (h = .clear → condition = true → h' = .timing ∧ n' = 0) ∧
    (h = .timing → condition = false → h' = .clear ∧ n' = 0) ∧
    ((h = .clear ∧ condition = false) ∨ (h = .timing ∧ condition = true) ∨ h = .latched → h' = h ∧ n' = n)

/-! ## An evaluation -/

/-- Under ROR the compressor's and the defrost's requests are passed over while the vend's waits and does not fit (R161). -/
def GrantTable.PassesOver (g : GrantTable) (ror : Prop) (limit : Nat) (c : Consumer) : Prop :=
  ror ∧ (c = .compressor ∨ c = .defrost) ∧
    ∃ d, g.vend = .waiting d ∧ limit < g.allocation + min d limit

/-- What an evaluation grants of a table, over consumers in priority order (R160, R161): each waiting request that fits,
the lesser of its demand and the limit; with FAIR on, none after the first that does not fit and is not passed over. -/
inductive GrantTable.Grants (fair ror : Prop) (limit : Nat) : List Consumer → GrantTable → GrantTable → Prop
  | nobody (g : GrantTable) : Grants fair ror limit [] g g
  | silent {c : Consumer} {cs : List Consumer} {g h : GrantTable} :
      (∀ d, g.entry c ≠ .waiting d) → Grants fair ror limit cs g h → Grants fair ror limit (c :: cs) g h
  | passed {c : Consumer} {cs : List Consumer} {g h : GrantTable} {d : Nat} :
      g.entry c = .waiting d → g.PassesOver ror limit c → Grants fair ror limit cs g h →
      Grants fair ror limit (c :: cs) g h
  | fits {c : Consumer} {cs : List Consumer} {g h : GrantTable} {d : Nat} :
      g.entry c = .waiting d → ¬g.PassesOver ror limit c → g.allocation + min d limit ≤ limit →
      Grants fair ror limit cs (g.setEntry c (.granted d (min d limit))) h → Grants fair ror limit (c :: cs) g h
  | stops {c : Consumer} {cs : List Consumer} {g : GrantTable} {d : Nat} :
      fair → g.entry c = .waiting d → ¬g.PassesOver ror limit c → limit < g.allocation + min d limit →
      Grants fair ror limit (c :: cs) g g
  | waits {c : Consumer} {cs : List Consumer} {g h : GrantTable} {d : Nat} :
      ¬fair → g.entry c = .waiting d → ¬g.PassesOver ror limit c → limit < g.allocation + min d limit →
      Grants fair ror limit cs g h → Grants fair ror limit (c :: cs) g h

/-- `g` is the table that an evaluation of `s` leaves: its grants in the priority order PAYOUT, VEND, COMPRESSOR, DEFROST
(R161). -/
def State.Granting (s : State) (g : GrantTable) : Prop :=
  GrantTable.Grants (s.arbiter.fair = true) (s.arbiter.releaseMode = .ror) s.arbiter.limit
    [.payout, .vend, .compressor, .defrost] s.arbiter.table g

/-- A consumer whose request an evaluation granted. -/
def GrantTable.Newly (g g' : GrantTable) (c : Consumer) : Prop :=
  (∃ d, g.entry c = .waiting d) ∧ (g'.entry c).isGranted = true

/-- An evaluation that leaves the table `g` ends with yields (R163): ROR, and the vend's request waits and does not
fit. -/
def State.Yields (s : State) (g : GrantTable) : Prop :=
  s.arbiter.releaseMode = .ror ∧ ∃ d, g.vend = .waiting d ∧ s.arbiter.limit < g.allocation + min d s.arbiter.limit

/-- What the Payout Engine makes of its grant (R83, R84): the order is PAYING, its budget wait stops, and the first coin
is pulsed, from the tube of the highest value that the plan takes a coin from, the lowest number among equals. -/
def State.PayoutTold (s : State) (g : GrantTable) (p : PayoutEngine) : Prop :=
  (¬s.arbiter.table.Newly g .payout → p = s.payout) ∧
    (s.arbiter.table.Newly g .payout →
      ∃ (o : Order) (k : TubeNo), s.payout.order = some o ∧ o.state = .waitGrant ∧ o.plan[k] ≠ 0 ∧
        (s.tube k).value ≠ 0 ∧
        (∀ j : TubeNo, o.plan[j] ≠ 0 →
          (s.tube j).value < (s.tube k).value ∨ ((s.tube j).value = (s.tube k).value ∧ k ≤ j)) ∧
        p =
          { s.payout with
            order :=
              some
                { o with
                  state := .paying, budgetWait := none
                  awaited :=
                    some
                      { tube := k, retry := false, timer := { elapsed := 0, limit := s.machine.payoutCoinLimit } } }
            solenoids := s.payout.solenoids.set k (some { elapsed := 0, limit := 30 }) })

/-- What the Vend Engine makes of its grant when its lane is not held (R122, R123): the budget wait stops, and the first
run on the current lane is switched on. -/
def State.VendTold (s : State) (g : GrantTable) (v : VendEngine) (d : DriveMatrix) : Prop :=
  (¬s.arbiter.table.Newly g .vend → v = s.vend ∧ d = s.drive) ∧
    (s.arbiter.table.Newly g .vend →
      ∃ (c : VendContext) (f : FittedLane), s.vend.context = some c ∧ c.phase = .waitGrant ∧
        s.lane c.current = some f ∧ (f.laneClass = .ambient ∨ s.cooling.hold ≠ .latched) ∧
        d = { context := some (f.freshDrive c.current), marker := some c.current } ∧
        v =
          { s.vend with
            context :=
              some
                (VendContext.underway { c with budgetWait := none }
                  (decide (c.kind = .homeLane ∨ f.motor = .homed .offHome)) f.motor) })

/-- What the Cooling Controller makes of its grants and of a yield to the compressor (R146, R150, R152): a compressor
newly granted is STARTING with its start interval and minimum run begun; a yield in STARTING, or in RUNNING before the
minimum run has elapsed, is held; a defrost newly granted is HEATING when it `heats`. -/
def State.CoolingTold (s : State) (g : GrantTable) (heats : Bool) (c : Cooling) : Prop :=
  ∀ e : Cooling, e = { s.cooling with defrost := if heats then .heating else s.cooling.defrost } →
    (s.arbiter.table.Newly g .compressor → s.cooling.compressor = .waitBudget ∧
      c = { e with
            compressor := .starting
            startInterval := some { elapsed := 0, limit := s.cooling.settings.startInterval * 1000 }
            minimumRun := some { elapsed := 0, limit := s.cooling.settings.minimumRun * 1000 }, runPhase := 0 }) ∧
    (¬s.arbiter.table.Newly g .compressor →
      (s.Yields g ∧ g.compressor.isGranted = true →
        (s.cooling.compressor = .starting ∨ s.cooling.compressor = .running ∧ s.cooling.minimumRun ≠ none) ∧
          c = { e with yieldHeld := true }) ∧
      (¬(s.Yields g ∧ g.compressor.isGranted = true) → c = e))

/-- The termination test of a defrost (R152): COIL OK and seeded with its filtered temperature at or above the termination,
or the defrost timer at the maximum defrost. -/
def State.DefrostTerminates (s : State) : Prop :=
  (s.cooling.coil.status = .ok ∧
      ∃ x, s.cooling.coil.filtered = some x ∧ (s.cooling.settings.termination : Int) ≤ x) ∨
    s.cooling.settings.maximumDefrost * 60000 ≤ s.cooling.defrostTimer

/-- `u` is `s` after an evaluation's grants, its owners told: the entries granted, and what each owner makes of its own
(R161). -/
def State.Told (s : State) (g : GrantTable) (heats : Bool) (u : State) : Prop :=
  s.Granting g ∧
    ∃ (p : PayoutEngine) (v : VendEngine) (d : DriveMatrix) (c : Cooling),
      s.PayoutTold g p ∧ s.VendTold g v d ∧ s.CoolingTold g heats c ∧
        u = { s with arbiter := { s.arbiter with table := g }, payout := p, vend := v, drive := d, cooling := c }

/-- `t` is what an evaluation of `s` leaves when no owner's act on its grant or yield makes a further evaluation (R161,
R163): a defrost newly granted heats, and no defrost holds a grant that it is asked to yield. -/
def State.Evaluated (s t : State) : Prop :=
  ∃ (g : GrantTable) (heats : Bool), s.Told g heats t ∧
    (heats = true ↔ s.arbiter.table.Newly g .defrost) ∧
    (heats = true → s.cooling.defrost = .paused ∧ ¬s.DefrostTerminates) ∧
    (s.Yields g → g.defrost.isGranted = false)

/-! ## Starts and the supply -/

/-- A tube as a start leaves it (R43), with its sensors as read, the low one first. -/
def Tube.asStarted (t : Tube) (seated low full : Bool) : Tube :=
  if seated = true ∧ t.value ≠ 0 then
    ({ t with
       committed := 0, verified := false, presence := .active, lowCovered := low, fullCovered := full } : Tube).clampBoth
  else { t with committed := 0, verified := false, presence := .absent, lowCovered := low, fullCovered := full }

/-- `t` is what a completed start of the given kind makes of the records of `s` (R3, R43, R70, R97, R115, R157, R159,
R164, R166, R174, R179, R190): `s` has its serial memory line and first cell sample already read. -/
structure State.Started (s t : State) (kind : StartKind) (badImage : Bool) (i : StartInputs) : Prop where
  windows : t.lanes.windows = s.lanes.windows
  faultedCount : t.lanes.faultedCount = s.lanes.faultedCount
  lanes : ∀ l, s.drive.marker ≠ some l → t.lane l = s.lane l
  marked :
    ∀ l, s.drive.marker = some l →
      (s.lane l = none → t.lane l = none) ∧
        ∀ f, s.lane l = some f →
          (∀ p, f.motor = .homed p → t.lane l = some { f with motor := .homed .offHome }) ∧
            (∀ r, f.motor = .timed r → t.lane l = some f)
  drive : t.drive = { context := none, marker := none }
  session :
    t.session =
      { s.session with
        coin := s.session.coin + s.session.escrowCoin
        cashless := s.session.cashless + s.session.escrowCashless
        escrowCoin := 0, escrowCashless := 0, cancelPending := false
        state :=
          if 0 < s.session.coin + s.session.escrowCoin ∨ 0 < s.session.cashless + s.session.escrowCashless then .opened
          else .idle
        timer :=
          if 0 < s.session.coin + s.session.escrowCoin ∨ 0 < s.session.cashless + s.session.escrowCashless then
            s.freshTimeout
          else none }
  coins : t.coins = { s.coins with slot := none, diverter := .cashbox, lastReject := none }
  payout : t.payout = { order := none, held := false, record := none, solenoids := Vector.replicate 6 none }
  vend : t.vend = { context := none, result := none }
  machine : t.machine = s.machine
  tubes :
    ∀ n : TubeNo,
      t.tube n =
        (s.tube n).asStarted
          (i.contactFirst && i.contactSecond && decide (i.codePins.val = s.machine.expectedCode)) i.lowCovered[n]
          i.fullCovered[n]
  contacts : t.tubes.contactFirst = i.contactFirst ∧ t.tubes.contactSecond = i.contactSecond
  code : t.tubes.cassetteCode = if i.contactFirst && i.contactSecond then i.codePins.val else 0
  cassette :
    t.tubes.cassette =
      if i.contactFirst && i.contactSecond then
        (if i.codePins.val = s.machine.expectedCode then .seated else .mismatch)
      else if i.contactFirst || i.contactSecond then .partlySeated
      else .removed
  probes : t.tubes.probes = s.tubes.probes
  exactChange : t.tubes.exactChange = t.tubes.exactChangeDue
  compressor : t.cooling.compressor = .offResting
  minimumOff : t.cooling.minimumOff = some { elapsed := 0, limit := s.cooling.settings.minimumOff * 1000 }
  channels : t.cooling.cabinet = Channel.initial ∧ t.cooling.coil = Channel.initial
  call : t.cooling.call = false ∧ t.cooling.fallback = none
  settings : t.cooling.settings = s.cooling.settings
  accumulatedRun :
    0 < s.cooling.settings.maximumDefrost → t.cooling.accumulatedRun = s.cooling.accumulatedRun
  hold : t.cooling.hold = s.cooling.hold ∧ t.cooling.holdTimer = 0
  arbiter : { t.arbiter with table := GrantTable.initial } =
    { s.arbiter with table := GrantTable.initial, budget := s.arbiter.limit, pendingBudget := none }
  noDefrost :
    s.cooling.accumulatedRun < s.cooling.settings.defrostInterval * 3600 →
      t.cooling.defrost = .none ∧ t.arbiter.table = GrantTable.initial
  defrost :
    s.cooling.settings.defrostInterval * 3600 ≤ s.cooling.accumulatedRun → 0 < s.cooling.settings.maximumDefrost →
      t.cooling.defrost = .paused ∨ t.cooling.defrost = .heating
  supply :
    t.supply =
      { s.supply with
        underLevel := i.underAsserted, overLevel := i.overAsserted, underSeen := i.underAsserted
        overSeen := i.overAsserted, door := .opened, quiet := false, power := .running, markerValid := true
        startKind := kind }
  image :
    t.image = { s.image with imageBad := badImage, result := if badImage then .badImage else .none, copy := none }
  port :
    t.port =
      { pending := { status := .noReply, code := 0x00#8, payload := [] }, sdo := []
        flags :=
          (if badImage then Flag.storeDone.word else 0#17)
            ||| (if s.supply.cell = .good then 0#17 else Flag.cell.word)
            ||| (if i.underAsserted || i.overAsserted then Flag.supply.word else 0#17)
        mask := 0#17, link := s.port.link }
  pending : t.pending = s.pending

/-- The state that a cold start reads its image into (R191): every record at its cold-start value, the marker INVALID,
and what lies outside the part as it was. -/
def State.coldRecords (s : State) (fitted : Bool) (millivolts : Nat) : State :=
  { State.reset with
    supply :=
      { State.reset.supply with
        cell := if 2700 ≤ millivolts then .good else if 2400 ≤ millivolts then .weak else .dead
        power := .loading, markerValid := false, startKind := s.supply.startKind }
    image :=
      { State.reset.image with fitted := fitted, memory := s.image.memory, freeDraws := s.image.freeDraws }
    port := { State.reset.port with link := s.port.link }
    pending := s.pending }

/-! ## The whole part -/

/-- The serial memory is in its canonical form. -/
def State.MemoryLawful (s : State) : Prop := Memory.wf s.image.memory = true

end Sys2Proof.Machine
end

