-- ==== Sys2Proof/Certificates/Slice0/Obligations.lean ====
section
/-! DEFINITION. The statements for the provers, each a proposition about the model; OBLIGATIONS.json lists them with the
rules of spec/ they rest on. -/
open Sys2Proof Sys2Proof.Machine

/-! ## The step and the command port (10_the_command_port_and_attention.md) -/

/-- One step takes the command at the front of the queue and runs it with the queue's rest. -/
def Obligations.StepRunsTheFrontCommand : Prop :=
  ∀ (s : State) (c : Instr) (rest : List Instr), s.pending = c :: rest → step s = exec c { s with pending := rest }

/-- On an empty queue a step takes the expiry that is due, or lets one millisecond pass: a coin in transit and the
session's last-activity timer are then one millisecond older, and the timer's mark of log entry 31 is gone. An inert
part stays as it is. The model's choice, log entry 2. -/
def Obligations.EmptyQueueLetsTimePass : Prop :=
  ∀ s : State, s.pending = [] →
    (∀ c, s.due = some c → step s = exec c s) ∧
    (s.supply.power ≠ .running → step s = .next s) ∧
    (s.supply.power = .running → s.due = none →
      ∃ t, step s = .next t ∧ t.lanes = s.lanes ∧ t.tubes = s.tubes ∧ t.arbiter = s.arbiter ∧ t.port = s.port ∧
        t.coins.slot =
          s.coins.slot.map (fun x => { x with timer := { elapsed := x.timer.elapsed + 1, limit := x.timer.limit } }) ∧
        t.session.timer = s.session.timer.map (fun x => { elapsed := x.elapsed + 1, limit := x.limit }))

/-- Every command completes, whatever the state, and leaves the queue of waiting commands as it was. -/
def Obligations.EveryCommandCompletes : Prop :=
  ∀ (c : Instr) (s : State), ∃ t, exec c s = .next t ∧ t.pending = s.pending

/-- A request's frame shifts out the reply built before it, as many bytes as it clocks in and 0x00 after the payload,
and leaves its own reply, answering its own code, as the pending one (R176). The mask stands but for its own request.
-/
def Obligations.RequestShiftsOutTheReplyBeforeIt : Prop :=
  ∀ (c : Instr) (s : State) (code : Byte) (ps : List Byte),
    encodeFrame c = some (code :: ps) → s.TakesFrames →
    ∃ t, exec c s = .next t ∧ t.port.pending.code = code ∧ t.port.link = .ready ∧
      t.port.sdo =
        (s.port.pending.status.code :: s.port.pending.code :: s.port.pending.payload
          ++ List.replicate (1 + ps.length) 0x00#8).take (1 + ps.length) ∧
      ((∀ w, c ≠ .setAttentionMask w) → t.port.mask = s.port.mask)

/-- A request refused changes no record and no flag. The exceptions are the two that their rules give: a refused VEND
is still activity in OPEN (R112), and a GRANT_CASHLESS may first wake the part (R102). -/
def Obligations.RefusedRequestChangesNothing : Prop :=
  ∀ (c : Instr) (s t : State), (encodeFrame c).isSome = true → exec c s = .next t →
    t.port.pending.status ≠ .ok → t.port.pending.status ≠ .accepted →
    ((∃ code, c = .vend code) →
      { t with port := s.port, session := s.session } = s ∧ t.session = { s.session with timer := t.session.timer } ∧
        t.port.flags = s.port.flags ∧ t.port.mask = s.port.mask) ∧
    ((∀ code, c ≠ .vend code) →
      ((∃ a, c = .grantCashless a) → s.supply.quiet = true → s.supply.wakeCashless = false) →
      { t with port := s.port } = s ∧ t.port.flags = s.port.flags ∧ t.port.mask = s.port.mask)

/-- R177: how a frame is judged when SEL_N rises, the first case that applies, and what each discarded frame and NOP
does. A frame that is handled encodes the very bytes that were clocked. -/
def Obligations.FramesAreJudgedInOrder : Prop :=
  (∀ (bytes : List Byte) (part : Nat),
    (bytes = [] ∨ part ≠ 0 → decodeFrame bytes part = .frameError bytes part) ∧
    (∀ code ps, bytes = code :: ps → part = 0 →
      (code ≠ 0x00#8 → requestLength code.toNat = none → decodeFrame bytes part = .unknownRequest code ps.length) ∧
      (code = 0x00#8 → decodeFrame bytes part = .nop ps.length) ∧
      (∀ n, code ≠ 0x00#8 → requestLength code.toNat = some n →
        (ps.length ≠ n → decodeFrame bytes part = .frameError bytes part) ∧
        (ps.length = n → encodeFrame (decodeFrame bytes part) = some bytes)))) ∧
  ∀ s : State, s.TakesFrames →
    (∀ extra, exec (.nop extra) s = .next (s.answered s (1 + extra) 0x00#8 .ok [])) ∧
    (∀ bytes part, exec (.frameError bytes part) s =
      .next (({ s with port := { s.port with flags := s.port.flags ||| 0x10000#17 } } : State).answered s bytes.length
        (bytes.headD 0x00#8) .frameError [])) ∧
    (∀ code extra, exec (.unknownRequest code extra) s = .next (s.answered s (1 + extra) code .unknownRequest []))

/-- Decode and encode agree: the frame of every request is judged to be that request, with every operand at every
value its bytes can hold. -/
def Obligations.EncodedRequestsDecodeToThemselves : Prop :=
  ∀ (c : Instr) (bytes : List Byte), encodeFrame c = some bytes → decodeFrame bytes 0 = c

/-- R178: a link reset replaces the pending reply by NO_REPLY and changes nothing else but the link; while LRST_N is
low every frame is lost; after it rises the next frame shifts out NO_REPLY. The link is followed while the part is
inert too: the model's choice, log entry 24. -/
def Obligations.LinkResetLosesTheReplyAlone : Prop :=
  ∀ s : State, ∃ t u, exec .linkReset s = .next t ∧ exec .lrstNRelease t = .next u ∧
    t.port.pending = { status := .noReply, code := 0x00#8, payload := [] } ∧
    { t with port := s.port } = s ∧ t.port.flags = s.port.flags ∧ t.port.mask = s.port.mask ∧
    (∀ c, (encodeFrame c).isSome = true → exec c t = .next t) ∧
    (∀ bs n, exec (.frameError bs n) t = .next t) ∧ (∀ b n, exec (.unknownRequest b n) t = .next t) ∧
    { u with port := t.port } = t ∧ u.port.pending = t.port.pending ∧ u.port.flags = t.port.flags ∧
    (s.supply.power = .running → ∀ c bytes, encodeFrame c = some bytes →
      ∃ v, exec c u = .next v ∧
        v.port.sdo = ([0x12#8, 0x00#8] ++ List.replicate bytes.length 0x00#8).take bytes.length)

/-- R184: READ_ATTENTION answers the flag word, the mask word, the set flag with the lowest bit position (0xFF when no
flag is set) and the count of FAULTED lanes; it clears nothing, and a second one returns the same reply. -/
def Obligations.ReadAttentionAnswersTheFirstSetFlag : Prop :=
  ∀ s : State, s.TakesFrames →
    ∃ (first : Byte) (t : State),
      exec .readAttention s = .next t ∧
      t = s.answered s 1 0x01#8 .ok
        (flagField s.port.flags ++ flagField s.port.mask ++ [first] ++ field 1 s.lanes.faultedCount) ∧
      ((s.port.flags = 0#17 ∧ first = 0xFF#8) ∨
        ∃ b : Nat, b < 17 ∧ first = BitVec.ofNat 8 b ∧ s.port.flags.getLsbD b = true ∧
          ∀ k, k < b → s.port.flags.getLsbD k = false) ∧
      ∃ u, exec .readAttention t = .next u ∧ u.port.pending = t.port.pending

/-- ACK_ATTENTION clears every flag whose bit is 1 in the word and leaves the others; when it clears SUPPLY the seen
flags are cleared with it (R185). SET_ATTENTION_MASK replaces the mask and changes nothing else (R183). ATTN_N is low
while a flag is set and not masked, and released when none is. In the replies the level is 0 for low and 1 for
released: the model's choice, log entry 13. -/
def Obligations.AttentionFlagsAndMaskAreWritten : Prop :=
  ∀ (s : State) (w : FlagWord), s.TakesFrames →
    (∃ t : State, ∃ level : Byte,
      exec (.ackAttention w) s = .next (t.answered s 4 0x02#8 .ok (flagField t.port.flags ++ [level])) ∧
      t = { s with
            port := { s.port with flags := t.port.flags }
            supply := { s.supply with underSeen := t.supply.underSeen, overSeen := t.supply.overSeen } } ∧
      (∀ b, b < 17 → t.port.flags.getLsbD b = (s.port.flags.getLsbD b && !w.getLsbD b)) ∧
      ((s.port.flags.getLsbD 0 && w.getLsbD 0) = true → t.supply.underSeen = false ∧ t.supply.overSeen = false) ∧
      ((s.port.flags.getLsbD 0 && w.getLsbD 0) = false →
        t.supply.underSeen = s.supply.underSeen ∧ t.supply.overSeen = s.supply.overSeen) ∧
      (level = 0x00#8 ↔ ∃ b, b < 17 ∧ t.port.flags.getLsbD b = true ∧ s.port.mask.getLsbD b = false) ∧
      (level = 0x01#8 ↔ ∀ b, b < 17 → t.port.flags.getLsbD b = true → s.port.mask.getLsbD b = true)) ∧
    (∃ t : State, ∃ level : Byte,
      exec (.setAttentionMask w) s =
        .next (t.answered s 4 0x03#8 .ok (flagField t.port.mask ++ flagField s.port.flags ++ [level])) ∧
      t = { s with port := { s.port with mask := t.port.mask } } ∧
      (∀ b, b < 17 → t.port.mask.getLsbD b = w.getLsbD b) ∧
      (level = 0x00#8 ↔ ∃ b, b < 17 ∧ s.port.flags.getLsbD b = true ∧ w.getLsbD b = false) ∧
      (level = 0x01#8 ↔ ∀ b, b < 17 → s.port.flags.getLsbD b = true → w.getLsbD b = true))

/-- R182: setting a flag sets it, leaves every other flag as it stands and changes no record; an ACK_ATTENTION clears
the flags it names; and a flag that is set is cleared by no command but an ACK_ATTENTION that names it or a start. -/
def Obligations.OnlyAcknowledgementOrAStartClearsAFlag : Prop :=
  (∀ (f g : Flag) (s : State), { s.setFlag f with port := s.port } = s ∧ (s.setFlag f).port.isSet f = true ∧
    (f ≠ g → (s.setFlag f).port.isSet g = s.port.isSet g)) ∧
  (∀ (s : State) (w : FlagWord), s.TakesFrames → ∃ t, exec (.ackAttention w) s = .next t ∧
    ∀ f : Flag, w.getLsbD f.bit.val = true → t.port.isSet f = false) ∧
  ∀ (c : Instr) (s t : State) (f : Flag), exec c s = .next t → s.port.isSet f = true → t.port.isSet f = false →
    (∃ w, c = .ackAttention w ∧ w.getLsbD f.bit.val = true) ∨ (∃ a b i, c = .warmStart a b i) ∨
      (∃ a b i, c = .coldStart a b i) ∨ (∃ a i, c = .imageLoad a i)

/-- What a setting is changed by: its own request, or a cold start with its image (R11, R58, R61, R143, R164, R171,
R183, R186). No other command changes a window, a coin type, a machine or cooling setting, a probe amount, the
acceptance setting, an arbiter setting or a wake source. -/
def Obligations.SettingsChangeOnlyByTheirOwnRequests : Prop :=
  ∀ (c : Instr) (s t : State), exec c s = .next t → (∀ f mv i, c ≠ .coldStart f mv i) → (∀ a i, c ≠ .imageLoad a i) →
    ((∀ w p, c ≠ .setWindow w p) → t.lanes.windows = s.lanes.windows) ∧
    ((∀ y p, c ≠ .setCoinType y p) → t.coins.table = s.coins.table) ∧
    ((∀ m, c ≠ .setAccept m) → t.coins.acceptance = s.coins.acceptance) ∧
    ((∀ p, c ≠ .setMachine p) → t.machine = s.machine) ∧
    ((∀ p, c ≠ .setCooling p) → t.cooling.settings = s.cooling.settings) ∧
    ((∀ p, c ≠ .setProbes p) → t.tubes.probes = s.tubes.probes) ∧
    ((∀ p, c ≠ .setBudget p) →
      t.arbiter.payoutDemand = s.arbiter.payoutDemand ∧ t.arbiter.startDemand = s.arbiter.startDemand ∧
        t.arbiter.runDemand = s.arbiter.runDemand ∧ t.arbiter.defrostDemand = s.arbiter.defrostDemand ∧
        t.arbiter.fair = s.arbiter.fair ∧ t.arbiter.releaseMode = s.arbiter.releaseMode ∧
        t.arbiter.limit = s.arbiter.limit) ∧
    ((∀ p, c ≠ .setWakeSources p) →
      t.supply.wakeCoin = s.supply.wakeCoin ∧ t.supply.wakeDoor = s.supply.wakeDoor ∧
        t.supply.wakeCashless = s.supply.wakeCashless)

/-! ## The Lane Table (01_the_lane_table.md) -/

/-- R12 and R13: SET_WINDOW replaces the four fields of the named window and nothing else, and refuses an index, a
code or a base lane out of range, and a first code above the last, leaving every window as it was; READ_WINDOW returns
the named window's four fields and changes nothing. -/
def Obligations.WindowsAreWrittenAndRead : Prop :=
  ∀ (s : State) (w : Byte) (p : WindowParams), s.TakesFrames →
    (w.toNat ≤ 7 ∧ p.firstCode.toNat ≤ 999 ∧ p.lastCode.toNat ≤ 999 ∧ p.baseLane.toNat ≤ 79 ∧
        p.firstCode.toNat ≤ p.lastCode.toNat →
      ∃ t : State,
        exec (.setWindow w p) s =
          .next (t.answered s 8 0x17#8 .ok
            (field 2 p.firstCode.toNat ++ field 2 p.lastCode.toNat ++ field 1 p.baseLane.toNat
              ++ [if p.enabled = 0x00#8 then 0x00#8 else 0x01#8])) ∧
        t = { s with lanes := { s.lanes with windows := t.lanes.windows } } ∧
        ∀ n : WindowNo,
          (n.val ≠ w.toNat → t.lanes.windows[n] = s.lanes.windows[n]) ∧
          (n.val = w.toNat →
            t.lanes.windows[n].firstCode = p.firstCode.toNat ∧ t.lanes.windows[n].lastCode = p.lastCode.toNat ∧
            t.lanes.windows[n].baseLane.val = p.baseLane.toNat ∧
            (t.lanes.windows[n].enabled = true ↔ p.enabled ≠ 0x00#8))) ∧
    (7 < w.toNat ∨ 999 < p.firstCode.toNat ∨ 999 < p.lastCode.toNat ∨ 79 < p.baseLane.toNat ∨
        p.lastCode.toNat < p.firstCode.toNat →
      exec (.setWindow w p) s = .next (s.answered s 8 0x17#8 .outOfRange [])) ∧
    (∀ n : WindowNo, w.toNat = n.val →
      exec (.readWindow w) s =
        .next (s.answered s 2 0x18#8 .ok
          (field 2 s.lanes.windows[n].firstCode ++ field 2 s.lanes.windows[n].lastCode
            ++ field 1 s.lanes.windows[n].baseLane.val ++ [if s.lanes.windows[n].enabled then 0x01#8 else 0x00#8]))) ∧
    (7 < w.toNat → exec (.readWindow w) s = .next (s.answered s 2 0x18#8 .outOfRange []))

/-- R14: LOOKUP answers from the lowest-numbered enabled window that contains the code, that window alone deciding,
and changes nothing; and a VEND that passes its first four checks is answered NO_SELECTION exactly where LOOKUP of its
code is. The form of the availability in the reply, and that the lane is sent once, are the
model's choice, log entry 13. -/
def Obligations.LookupTakesTheLowestWindowAlone : Prop :=
  ∀ (s : State) (code : Half), s.TakesFrames →
    (999 < code.toNat → exec (.lookup code) s = .next (s.answered s 3 0x10#8 .outOfRange [])) ∧
    (code.toNat ≤ 999 →
      ((∀ i : WindowNo, ¬(s.lanes.windows[i].enabled = true ∧ s.lanes.windows[i].firstCode ≤ code.toNat ∧
            code.toNat ≤ s.lanes.windows[i].lastCode)) →
        exec (.lookup code) s = .next (s.answered s 3 0x10#8 .noSelection [0xFF#8, 0xFF#8])) ∧
      (∀ i : WindowNo,
        s.lanes.windows[i].enabled = true → s.lanes.windows[i].firstCode ≤ code.toNat →
        code.toNat ≤ s.lanes.windows[i].lastCode →
        (∀ j : WindowNo, j < i → ¬(s.lanes.windows[j].enabled = true ∧ s.lanes.windows[j].firstCode ≤ code.toNat ∧
            code.toNat ≤ s.lanes.windows[j].lastCode)) →
        (79 < s.lanes.windows[i].baseLane.val + (code.toNat - s.lanes.windows[i].firstCode) →
          exec (.lookup code) s = .next (s.answered s 3 0x10#8 .noSelection (field 1 i.val ++ [0xFF#8]))) ∧
        (∀ l : LaneNo, l.val = s.lanes.windows[i].baseLane.val + (code.toNat - s.lanes.windows[i].firstCode) →
          (s.lane l = none →
            exec (.lookup code) s = .next (s.answered s 3 0x10#8 .noSelection (field 1 i.val ++ field 1 l.val))) ∧
          (∀ f, s.lane l = some f →
            exec (.lookup code) s =
              .next (s.answered s 3 0x10#8 .ok
                (field 1 l.val ++ field 2 f.price
                  ++ (match s.unavailable l with
                      | none => [0x01#8, 0xFF#8]
                      | some r => [0x00#8] ++ field 1 r.code)
                  ++ field 1 i.val)))))) ∧
    (code.toNat ≤ 999 → s.supply.door = .closed → s.supply.quiet = false →
      (s.session.state = .idle ∨ s.session.state = .opened) → s.vend.context = none →
      ((∃ t, exec (.lookup code) s = .next t ∧ t.port.pending.status = .noSelection) ↔
        ∃ t, exec (.vend code) s = .next t ∧ t.port.pending.status = .noSelection))

/-- R4: a lane is available when it is ACTIVE, in stock and not held, and the reason reported is the first that
applies. READ_LANE returns the record, the engaged mark, the availability and the count of FAULTED lanes, and changes
nothing; an UNFITTED lane's fields are zero fill (R22). The coding of the sold-out marker and of the engaged mark and
the form of the availability are the model's choice, log entry 13. -/
def Obligations.AvailabilityIsReportedWithTheLaneRecord : Prop :=
  (∀ (s : State) (l : LaneNo),
    (s.lane l = none → s.unavailable l = some .notFitted) ∧
    ∀ f, s.lane l = some f →
      (f.fault ≠ none → s.unavailable l = some .faulted) ∧
      (f.fault = none →
        ((∃ cap, f.stock = .counted 0 cap) ∨ f.stock = .uncounted true → s.unavailable l = some .empty) ∧
        ((∃ n cap, f.stock = .counted (n + 1) cap) ∨ f.stock = .uncounted false →
          (f.laneClass = .chilled ∧ s.cooling.hold = .latched → s.unavailable l = some .held) ∧
          (f.laneClass = .ambient ∨ s.cooling.hold ≠ .latched → s.unavailable l = none)))) ∧
  ∀ (s : State) (lane : Byte), s.TakesFrames →
    (79 < lane.toNat → exec (.readLane lane) s = .next (s.answered s 2 0x11#8 .outOfRange [])) ∧
    (∀ l : LaneNo, lane.toNat = l.val →
      (s.lane l = none → s.engaged l = false →
        exec (.readLane lane) s =
          .next (s.answered s 2 0x11#8 .ok
            (List.replicate 17 0x00#8 ++ [0x00#8, 0x00#8] ++ field 1 0 ++ field 1 s.lanes.faultedCount))) ∧
      (∀ f, s.lane l = some f →
        exec (.readLane lane) s =
          .next (s.answered s 2 0x11#8 .ok
            (field 1 (if f.fault = none then 1 else 2)
              ++ (match f.fault with | none => [0xFF#8] | some k => field 1 k.code)
              ++ field 1 (if f.motor = .homed .offHome then 1 else 0)
              ++ field 2 f.price
              ++ (match f.stock with
                  | .counted n cap => field 1 0 ++ field 1 n ++ field 1 cap ++ [0xFF#8]
                  | .uncounted soldOut => field 1 1 ++ [0xFF#8, 0xFF#8] ++ [if soldOut then 0x01#8 else 0x00#8])
              ++ [if f.laneClass = .chilled then 0x01#8 else 0x00#8]
              ++ (match f.motor with
                  | .homed _ => [0x00#8, 0xFF#8, 0xFF#8]
                  | .timed r => [0x01#8] ++ field 2 r)
              ++ (match f.alternate with | none => [0xFF#8] | some a => field 1 a.val)
              ++ field 1 f.demand ++ field 2 f.duty
              ++ [if s.engaged l then 0x01#8 else 0x00#8]
              ++ (match s.unavailable l with
                  | none => [0x01#8, 0xFF#8]
                  | some r => [0x00#8] ++ field 1 r.code)
              ++ field 1 s.lanes.faultedCount))))

/-- R16 and R17: SET_LANE clamps its settings, fits an UNFITTED lane and reconfigures a fitted one, its stock
following the change of stock mode and its position the change of motor kind; nothing but the named lane's record
changes. The reply is the record as it then stands. -/
def Obligations.SetLaneFitsOrReconfigures : Prop :=
  ∀ (s : State) (lane : Byte) (l : LaneNo) (p : LaneParams), s.TakesFrames → lane.toNat = l.val →
    (p.stockMode = 0x00#8 ∨ p.stockMode = 0x01#8) → (p.laneClass = 0x00#8 ∨ p.laneClass = 0x01#8) →
    (p.motorKind = 0x00#8 ∨ p.motorKind = 0x01#8) → s.engaged l = false →
    ∃ r : FittedLane,
      exec (.setLane lane p) s =
        .next ((s.setLane l (some r)).answered s 13 0x12#8 .ok ((s.setLane l (some r)).laneFields l)) ∧
      (s.setLane l (some r)).lane l = some r ∧ (∀ k, k ≠ l → (s.setLane l (some r)).lane k = s.lane k) ∧
      { s.setLane l (some r) with lanes := { (s.setLane l (some r)).lanes with records := s.lanes.records } } = s ∧
      r.price = p.price.toNat ∧
      r.laneClass = (if p.laneClass = 0x00#8 then .ambient else .chilled) ∧
      r.demand = (if p.demand = 0x00#8 then 12 else min 40 p.demand.toNat) ∧
      r.duty = (if p.duty = 0x0000#16 then 255 else max 64 (min 255 p.duty.toNat)) ∧
      (s.lane l = none →
        r.fault = none ∧ r.alternate = none ∧
        r.stock = (if p.stockMode = 0x00#8 then .counted 0 (max 1 (min 99 p.capacity.toNat)) else .uncounted false) ∧
        r.motor = (if p.motorKind = 0x00#8 then .homed .offHome else .timed (max 100 (min 10000 p.runTime.toNat)))) ∧
      (∀ f, s.lane l = some f →
        r.fault = f.fault ∧ r.alternate = f.alternate ∧
        (∀ n cap, f.stock = .counted n cap →
          r.stock =
            if p.stockMode = 0x00#8 then
              .counted (min n (max 1 (min 99 p.capacity.toNat))) (max 1 (min 99 p.capacity.toNat))
            else .uncounted (decide (n = 0))) ∧
        (∀ soldOut, f.stock = .uncounted soldOut →
          r.stock =
            if p.stockMode = 0x00#8 then .counted 0 (max 1 (min 99 p.capacity.toNat)) else .uncounted soldOut) ∧
        (p.motorKind = 0x01#8 → r.motor = .timed (max 100 (min 10000 p.runTime.toNat))) ∧
        (p.motorKind = 0x00#8 →
          (∀ q, f.motor = .homed q → r.motor = .homed q) ∧
          (∀ ms, f.motor = .timed ms → r.motor = .homed .offHome)))

/-- R15: the checks of the requests that change a lane, in their order, and that a refusal changes nothing; a request
that passes them is taken, and its reply carries the record as it then stands, in the form of READ_LANE. -/
def Obligations.LaneRequestsAreCheckedInOrder : Prop :=
  ∀ (s : State) (lane : Byte), s.TakesFrames →
    (79 < lane.toNat →
      (∀ p, exec (.setLane lane p) s = .next (s.answered s 13 0x12#8 .outOfRange [])) ∧
      (∀ a, exec (.setLink lane a) s = .next (s.answered s 3 0x13#8 .outOfRange [])) ∧
      (∀ n, exec (.restock lane n) s = .next (s.answered s 3 0x14#8 .outOfRange [])) ∧
      exec (.retireLane lane) s = .next (s.answered s 2 0x15#8 .outOfRange []) ∧
      exec (.clearLaneFault lane) s = .next (s.answered s 2 0x16#8 .outOfRange [])) ∧
    (∀ p : LaneParams, 1 < p.stockMode.toNat ∨ 1 < p.laneClass.toNat ∨ 1 < p.motorKind.toNat →
      exec (.setLane lane p) s = .next (s.answered s 13 0x12#8 .outOfRange [])) ∧
    (∀ a : Byte, 79 < a.toNat → a ≠ 0xFF#8 → exec (.setLink lane a) s = .next (s.answered s 3 0x13#8 .outOfRange [])) ∧
    ∀ l : LaneNo, lane.toNat = l.val →
      (s.lane l = none →
        (∀ a : Byte, a.toNat ≤ 79 ∨ a = 0xFF#8 →
          exec (.setLink lane a) s = .next (s.answered s 3 0x13#8 .notFitted [])) ∧
        (∀ n, exec (.restock lane n) s = .next (s.answered s 3 0x14#8 .notFitted [])) ∧
        exec (.retireLane lane) s = .next (s.answered s 2 0x15#8 .notFitted []) ∧
        exec (.clearLaneFault lane) s = .next (s.answered s 2 0x16#8 .notFitted [])) ∧
      (s.engaged l = true →
        (∀ p : LaneParams, p.stockMode.toNat ≤ 1 → p.laneClass.toNat ≤ 1 → p.motorKind.toNat ≤ 1 →
          exec (.setLane lane p) s = .next (s.answered s 13 0x12#8 .laneBusy [])) ∧
        (s.lane l ≠ none →
          (∀ a : Byte, a.toNat ≤ 79 ∨ a = 0xFF#8 →
            exec (.setLink lane a) s = .next (s.answered s 3 0x13#8 .laneBusy [])) ∧
          (∀ n, exec (.restock lane n) s = .next (s.answered s 3 0x14#8 .laneBusy [])) ∧
          exec (.retireLane lane) s = .next (s.answered s 2 0x15#8 .laneBusy []) ∧
          exec (.clearLaneFault lane) s = .next (s.answered s 2 0x16#8 .laneBusy []))) ∧
      (s.engaged l = false → s.lane l ≠ none → ∀ a : LaneNo, a = l ∨ s.lane a = none → ∀ b : Byte, b.toNat = a.val →
        exec (.setLink lane b) s = .next (s.answered s 3 0x13#8 .badLink [])) ∧
      ∀ c : Instr, s.engaged l = false →
        ((∃ p : LaneParams, c = .setLane lane p ∧ p.stockMode.toNat ≤ 1 ∧ p.laneClass.toNat ≤ 1 ∧ p.motorKind.toNat ≤ 1) ∨
          (s.lane l ≠ none ∧
            (c = .setLink lane 0xFF#8 ∨
              (∃ (b : Byte) (a : LaneNo), c = .setLink lane b ∧ b.toNat = a.val ∧ a ≠ l ∧ s.lane a ≠ none) ∨
              (∃ n, c = .restock lane n) ∨ c = .retireLane lane ∨ c = .clearLaneFault lane))) →
        ∃ (t : State) (n : Nat) (code : Byte) (more : List Byte),
          exec c s = .next (t.answered s n code .ok (t.laneFields l ++ more)) ∧
          exec (.readLane lane) t = .next (t.answered t 2 0x11#8 .ok (t.laneFields l)) ∧
          ((∀ x, c ≠ .retireLane x) → more = [])

/-- R19: RESTOCK on a lane, with every check and every stock form. SET_LINK sets or removes the alternate of a fitted
lane that is not engaged, and refuses the lane itself and an UNFITTED lane with BAD_LINK (R18). Neither changes
another field of any record. -/
def Obligations.RestockAndSetLinkChangeOneFieldAlone : Prop :=
  (∀ (s : State) (lane alternate : Byte) (l : LaneNo) (f : FittedLane), s.TakesFrames → lane.toNat = l.val →
    s.lane l = some f → s.engaged l = false →
    (alternate = 0xFF#8 →
      exec (.setLink lane alternate) s =
        .next ((s.setLane l (some { f with alternate := none })).answered s 3 0x13#8 .ok
          ((s.setLane l (some { f with alternate := none })).laneFields l))) ∧
    (∀ a : LaneNo, alternate.toNat = a.val →
      (a ≠ l → s.lane a ≠ none →
        exec (.setLink lane alternate) s =
          .next ((s.setLane l (some { f with alternate := some a })).answered s 3 0x13#8 .ok
            ((s.setLane l (some { f with alternate := some a })).laneFields l))) ∧
      (a = l ∨ s.lane a = none →
        exec (.setLink lane alternate) s = .next (s.answered s 3 0x13#8 .badLink [])))) ∧
  ∀ (s : State) (lane count : Byte) (l : LaneNo), s.TakesFrames → lane.toNat = l.val →
    (s.lane l = none → exec (.restock lane count) s = .next (s.answered s 3 0x14#8 .notFitted [])) ∧
    ∀ f, s.lane l = some f →
      (s.engaged l = true → exec (.restock lane count) s = .next (s.answered s 3 0x14#8 .laneBusy [])) ∧
      (s.engaged l = false →
        ∃ k : Stock,
          exec (.restock lane count) s =
            .next ((s.setLane l (some { f with stock := k })).answered s 3 0x14#8 .ok
              ((s.setLane l (some { f with stock := k })).laneFields l)) ∧
          (∀ n cap, f.stock = .counted n cap →
            (count = 0xFF#8 → k = .counted cap cap) ∧
            (count ≠ 0xFF#8 → count.toNat ≤ cap → k = .counted count.toNat cap) ∧
            (count ≠ 0xFF#8 → cap < count.toNat → k = .counted cap cap)) ∧
          (∀ b, f.stock = .uncounted b → k = .uncounted false))

/-- R20: RETIRE_LANE makes a fitted lane UNFITTED, takes it out of the count when it was FAULTED, and removes it as
the alternate of every other lane; windows, flags and everything else stand. The reply carries the record and how many
alternates were removed. -/
def Obligations.RetireRemovesTheLaneAndItsLinks : Prop :=
  ∀ (s : State) (lane : Byte) (l : LaneNo), s.TakesFrames → lane.toNat = l.val →
    (s.lane l = none → exec (.retireLane lane) s = .next (s.answered s 2 0x15#8 .notFitted [])) ∧
    ∀ f, s.lane l = some f →
      (s.engaged l = true → exec (.retireLane lane) s = .next (s.answered s 2 0x15#8 .laneBusy [])) ∧
      (s.engaged l = false →
        ∃ t : State,
          exec (.retireLane lane) s =
            .next (t.answered s 2 0x15#8 .ok
              (t.laneFields l ++ field 1
                ((List.finRange 80).countP fun k =>
                  k != l && (match s.lane k with | some g => g.alternate == some l | none => false)))) ∧
          t = { s with
                lanes := { s.lanes with records := t.lanes.records, faultedCount := t.lanes.faultedCount } } ∧
          t.lanes.faultedCount = (if f.fault = none then s.lanes.faultedCount else s.lanes.faultedCount - 1) ∧
          t.lane l = none ∧
          ∀ k, k ≠ l →
            (s.lane k = none → t.lane k = none) ∧
            (∀ g, s.lane k = some g →
              t.lane k = some { g with alternate := if g.alternate = some l then none else g.alternate }))

/-- R21: CLEAR_LANE_FAULT returns a FAULTED lane to service, OFF_HOME if it is HOMED, with the count one lower and
nothing else changed; on an ACTIVE lane it changes nothing. -/
def Obligations.ClearLaneFaultReturnsTheLaneToService : Prop :=
  ∀ (s : State) (lane : Byte) (l : LaneNo), s.TakesFrames → lane.toNat = l.val →
    (s.lane l = none → exec (.clearLaneFault lane) s = .next (s.answered s 2 0x16#8 .notFitted [])) ∧
    ∀ f, s.lane l = some f →
      (s.engaged l = true → exec (.clearLaneFault lane) s = .next (s.answered s 2 0x16#8 .laneBusy [])) ∧
      (s.engaged l = false →
        (f.fault = none → exec (.clearLaneFault lane) s = .next (s.answered s 2 0x16#8 .ok (s.laneFields l))) ∧
        (f.fault ≠ none →
          ∃ (m : Motor) (t : State),
            exec (.clearLaneFault lane) s = .next (t.answered s 2 0x16#8 .ok (t.laneFields l)) ∧
            (∀ q, f.motor = .homed q → m = .homed .offHome) ∧ (∀ ms, f.motor = .timed ms → m = f.motor) ∧
            t.lane l = some { f with fault := none, motor := m } ∧ (∀ k, k ≠ l → t.lane k = s.lane k) ∧
            t = { s with
                  lanes := { s.lanes with records := t.lanes.records, faultedCount := s.lanes.faultedCount - 1 } }))

/-- The Lane Table's laws hold after every step from a state in which they hold: the stock of a counted lane stays
within 0 to its capacity (R2), no alternate names the lane itself or an UNFITTED lane (R18), and the count is the
number of FAULTED records (R5, R3). -/
def Obligations.LaneTableLawsAreKept : Prop :=
  ∀ s t : State, s.LanesLawful → step s = .next t → t.LanesLawful

/-! ## The vend (07_the_vend.md, 02_the_spiral_drive_matrix.md) -/

/-- R118: the chain is the chosen lane, then its alternate, then that lane's alternate; it ends early at a lane with
no alternate and at an alternate already in it, and holds fitted lanes. The chosen lane, its price and the chain are
fixed at acceptance: no command changes them while the operation is in flight. -/
def Obligations.ChainFollowsAtMostTwoLinks : Prop :=
  (∀ (i : Instr) (s t : State) (c d : VendContext), exec i s = .next t → s.vend.context = some c →
    t.vend.context = some d → d.chosen = c.chosen ∧ d.price = c.price ∧ d.chain = c.chain) ∧
  (∀ (s : State) (code : Half) (t : State) (d : VendContext), exec (.vend code) s = .next t → s.vend.context = none →
    t.vend.context = some d →
    (s.lookupCode code.toNat).lane = some d.chosen ∧ d.chain = s.chainOf d.chosen ∧
      ∀ f, s.lane d.chosen = some f → d.price = f.price) ∧
  ∀ (s : State) (l : LaneNo) (f : FittedLane), s.lane l = some f →
    (∀ k a, s.lane k = some a → ∀ b, a.alternate = some b → s.lane b ≠ none) →
    (f.alternate = none ∨ f.alternate = some l → s.chainOf l = [l]) ∧
    (∀ a g, f.alternate = some a → a ≠ l → s.lane a = some g →
      (g.alternate = none ∨ g.alternate = some l ∨ g.alternate = some a → s.chainOf l = [l, a]) ∧
      (∀ b, g.alternate = some b → b ≠ l → b ≠ a → s.chainOf l = [l, a, b])) ∧
    (∀ k ∈ s.chainOf l, s.lane k ≠ none)

/-- R117: the checks of a VEND in their order, the status of each refusal and what its reply carries, and that a VEND
that passes them all is accepted. A refusal changes no record and restarts the timer of an OPEN session; the mark on that
timer, for an expiry that it meets (R113), is the model's own, log entry 31. -/
def Obligations.VendIsRefusedByTheFirstCheckThatFails : Prop :=
  ∀ (s : State) (code : Half), s.TakesFrames →
    (999 < code.toNat →
      exec (.vend code) s = .next (s.afterVendActivity.answered s 3 0x20#8 .outOfRange [])) ∧
    (code.toNat ≤ 999 →
      (s.supply.door = .opened →
        exec (.vend code) s = .next (s.afterVendActivity.answered s 3 0x20#8 .doorOpen [])) ∧
      (s.supply.door = .closed →
        (s.supply.quiet = true →
          exec (.vend code) s = .next (s.afterVendActivity.answered s 3 0x20#8 .quiet [])) ∧
        (s.supply.quiet = false →
          (s.session.state = .vending ∨ s.session.state = .paying ∨ s.vend.context ≠ none →
            exec (.vend code) s =
              .next (s.afterVendActivity.answered s 3 0x20#8 .busy (field 1 s.session.state.code))) ∧
          (s.session.state = .idle ∨ s.session.state = .opened → s.vend.context = none →
            ((s.lookupCode code.toNat).lane = none →
              exec (.vend code) s =
                .next (s.afterVendActivity.answered s 3 0x20#8 .noSelection
                  (fieldOr 1 (s.lookupCode code.toNat).window ++ fieldOr 1 (s.lookupCode code.toNat).computed))) ∧
            (∀ chosen f, (s.lookupCode code.toNat).lane = some chosen → s.lane chosen = some f →
              ((∀ l ∈ s.chainOf chosen, s.unavailable l ≠ none) →
                exec (.vend code) s =
                  .next (s.afterVendActivity.answered s 3 0x20#8 .unavailable
                    (field 1 chosen.val ++ fieldOr 1 ((s.unavailable chosen).map Unavailable.code)))) ∧
              ((∃ l ∈ s.chainOf chosen, s.unavailable l = none) →
                (f.price ≤ s.session.coin + s.session.cashless →
                  s.tubes.paysExactly (s.session.coin - (f.price - min s.session.cashless f.price)) = true →
                  ∃ t, exec (.vend code) s = .next t ∧ t.port.pending.status = .accepted) ∧
                (s.session.coin + s.session.cashless < f.price →
                  exec (.vend code) s =
                    .next (s.afterVendActivity.answered s 3 0x20#8 .insufficient
                      (field 2 f.price ++ field 2 (f.price - (s.session.coin + s.session.cashless))))) ∧
                (f.price ≤ s.session.coin + s.session.cashless →
                  s.tubes.paysExactly (s.session.coin - (f.price - min s.session.cashless f.price)) = false →
                  exec (.vend code) s =
                    .next (s.afterVendActivity.answered s 3 0x20#8 .noChange
                      (field 2 (s.session.coin - (f.price - min s.session.cashless f.price)))))))))))

/-- R121 (with R104): a VEND that passes every check is accepted. The context names the chosen lane and its price, the
chain, the first available lane as the current one and the lanes passed over, its lanes being the engaged ones; the
price moves from credit into escrow, cashless first; the VEND request waits with the selected lane's drive demand, and
an evaluation follows. That the context keeps whether the session was IDLE, for the end of the vend (R103, R107), is the
model's own mark, log entry 22. -/
def Obligations.VendAcceptedTakesThePriceIntoEscrow : Prop :=
  (∀ (s : State) (l : LaneNo), s.engaged l = true ↔ ∃ c, s.vend.context = some c ∧ l ∈ c.chain) ∧
  ∀ (s : State) (code : Half) (chosen selected : LaneNo) (f r : FittedLane) (passed rest : List LaneNo),
    s.TakesFrames → code.toNat ≤ 999 → s.supply.door = .closed → s.supply.quiet = false →
    (s.session.state = .idle ∨ s.session.state = .opened) → s.vend.context = none → s.arbiter.table.vend = .idle →
    (s.lookupCode code.toNat).lane = some chosen → s.lane chosen = some f →
    s.chainOf chosen = passed ++ selected :: rest → (∀ l ∈ passed, s.unavailable l ≠ none) →
    s.unavailable selected = none → s.lane selected = some r →
    f.price ≤ s.session.coin + s.session.cashless →
    s.tubes.paysExactly (s.session.coin - (f.price - min s.session.cashless f.price)) = true →
    exec (.vend code) s =
      .next
        ((State.evaluate
          { s with
            session :=
              { s.session with
                cashless := s.session.cashless - min s.session.cashless f.price
                escrowCashless := min s.session.cashless f.price
                coin := s.session.coin - (f.price - min s.session.cashless f.price)
                escrowCoin := f.price - min s.session.cashless f.price
                state := .vending, timer := none, cancelPending := false }
            arbiter :=
              { s.arbiter with table := { s.arbiter.table with vend := .waiting r.demand } }
            vend :=
              { s.vend with
                context :=
                  some
                    { kind := .vend, code := some code.toNat, chosen := chosen, price := f.price,
                      chain := s.chainOf chosen, current := selected, phase := .waitGrant,
                      retriesLeft := s.machine.retries, motionBegun := false, driveBounceUsed := false,
                      window := .closed, dropSeen := none, leaveCause := none, limitCause := none,
                      supplyAborted := false,
                      inForce :=
                        { tStart := s.machine.tStart, tCycle := s.machine.tCycle, tDrop := s.machine.tDrop,
                          retries := s.machine.retries, dropSensing := s.machine.dropSensing,
                          budgetWait := s.machine.budgetWait },
                      turnsMade := 0, availBounces := passed.length, driveBounces := 0,
                      fromIdle := decide (s.session.state = .idle),
                      budgetWait := some { elapsed := 0, limit := s.machine.budgetWait }, tStart := none,
                      tCycle := none, runTime := none } } }).answered s 3 0x20#8 .accepted
          (field 1 chosen.val ++ field 1 selected.val ++ field 2 f.price
            ++ ((s.chainOf chosen).map (fun l => BitVec.ofNat 8 l.val) ++ [0xFF#8, 0xFF#8, 0xFF#8]).take 3
            ++ field 1 passed.length ++ field 2 (f.price - min s.session.cashless f.price)
            ++ field 2 (min s.session.cashless f.price)))

/-- TEST_VEND and HOME_LANE: the checks in their order, and what an accepted one leaves: its context, its VEND request
with the lane's drive demand, and an evaluation; no credit moves (R138, R139). The context's mark `fromIdle` is the
model's own, log entry 22. -/
def Obligations.ServiceRequestsDriveOneLane : Prop :=
  ∀ (s : State) (lane : Byte), s.TakesFrames →
    (79 < lane.toNat →
      exec (.testVend lane) s = .next (s.answered s 2 0x21#8 .outOfRange []) ∧
      exec (.homeLane lane) s = .next (s.answered s 2 0x22#8 .outOfRange [])) ∧
    ∀ l : LaneNo, lane.toNat = l.val →
      (s.supply.quiet = true →
        exec (.testVend lane) s = .next (s.answered s 2 0x21#8 .quiet []) ∧
        exec (.homeLane lane) s = .next (s.answered s 2 0x22#8 .quiet [])) ∧
      (s.supply.quiet = false → s.supply.door = .closed →
        exec (.testVend lane) s = .next (s.answered s 2 0x21#8 .doorClosed []) ∧
        exec (.homeLane lane) s = .next (s.answered s 2 0x22#8 .doorClosed [])) ∧
      (s.supply.quiet = false → s.supply.door = .opened →
        (s.session.state ≠ .idle ∨ s.vend.context ≠ none →
          exec (.testVend lane) s = .next (s.answered s 2 0x21#8 .busy []) ∧
          exec (.homeLane lane) s = .next (s.answered s 2 0x22#8 .busy [])) ∧
        (s.session.state = .idle → s.vend.context = none →
          (s.lane l = none →
            exec (.testVend lane) s = .next (s.answered s 2 0x21#8 .notFitted []) ∧
            exec (.homeLane lane) s = .next (s.answered s 2 0x22#8 .notFitted [])) ∧
          ∀ f, s.lane l = some f →
            (∀ u, s.unavailable l = some u →
              exec (.testVend lane) s = .next (s.answered s 2 0x21#8 .unavailable (field 1 u.code))) ∧
            (s.unavailable l = none → s.arbiter.table.vend = .idle →
              exec (.testVend lane) s =
                .next
                  ((State.evaluate
                    { s with
                      vend := { s.vend with context := some (s.serviceContext .testVend l) }
                      arbiter := { s.arbiter with table := { s.arbiter.table with vend := .waiting f.demand } } }).answered
                    s 2 0x21#8 .ok [])) ∧
            ((∃ ms, f.motor = .timed ms) →
              exec (.homeLane lane) s = .next (s.answered s 2 0x22#8 .outOfRange [])) ∧
            ((∃ p, f.motor = .homed p) →
              (f.fault ≠ none →
                exec (.homeLane lane) s = .next (s.answered s 2 0x22#8 .unavailable (field 1 Unavailable.faulted.code))) ∧
              (f.fault = none → f.laneClass = .chilled → s.cooling.hold = .latched →
                exec (.homeLane lane) s = .next (s.answered s 2 0x22#8 .unavailable (field 1 Unavailable.held.code))) ∧
              (f.fault = none → f.laneClass = .ambient ∨ s.cooling.hold ≠ .latched → s.arbiter.table.vend = .idle →
                exec (.homeLane lane) s =
                  .next
                    ((State.evaluate
                      { s with
                        vend := { s.vend with context := some (s.serviceContext .homeLane l) }
                        arbiter :=
                          { s.arbiter with table := { s.arbiter.table with vend := .waiting f.demand } } }).answered
                      s 2 0x22#8 .ok [])))))

/-- R187: the reply of READ_VEND_RESULT is laid out byte by byte as the table gives, 26 bytes after the status and the
code, and READ_VEND_RESULT changes nothing. The next frame of n + 1 bytes takes its first n + 1 bytes, then 0x00. A
count of 3 availability bounces is sent as it stands, the model's choice, log entry 13. -/
def Obligations.ReadVendResultIsTwentyEightBytes : Prop :=
  ∀ s : State, s.TakesFrames →
    ∃ record flight : List Byte,
      exec .readVendResult s = .next (s.answered s 1 0x23#8 .ok (record ++ flight)) ∧
      (s.vend.result = none →
        record = [0x00#8, 0xFF#8, 0xFF#8, 0x00#8, 0xFF#8, 0xFF#8, 0xFF#8, 0x00#8, 0x00#8, 0x00#8, 0x00#8, 0x00#8]) ∧
      (∀ r, s.vend.result = some r →
        record =
          [match r.kind with | .vend => 0x01#8 | .testVend => 0x02#8 | .homeLane => 0x03#8]
            ++ (match r.code with | none => [0xFF#8, 0xFF#8] | some n => field 2 n)
            ++ field 1 r.chosen.val
            ++ (match r.vended with | none => [0xFF#8] | some l => field 1 l.val)
            ++ [match r.outcome with | .vended => 0x00#8 | .failed => 0x01#8 | .aborted => 0x02#8]
            ++ (match r.reason with
                | none => [0xFF#8] | some .empty => [0x00#8] | some .drive => [0x01#8] | some .budget => [0x02#8]
                | some .supply => [0x03#8] | some .held => [0x04#8])
            ++ field 2 r.price ++ field 1 r.turnsMade ++ field 1 r.availBounces ++ field 1 r.driveBounces) ∧
      (s.vend.context = none → flight = List.replicate 14 0x00#8) ∧
      (∀ c, s.vend.context = some c →
        ∃ left : Nat,
          (∀ timers : List Nat,
            timers = [c.budgetWait, c.tStart, c.tCycle, c.runTime,
                match c.window with | .opened t => t | .closed => none].filterMap
                  (fun t => t.map fun x => x.limit - x.elapsed) →
              (timers = [] → left = 0) ∧ (timers ≠ [] → left ∈ timers ∧ ∀ x ∈ timers, left ≤ x)) ∧
          flight =
            [0x01#8]
              ++ [match c.kind with | .vend => 0x01#8 | .testVend => 0x02#8 | .homeLane => 0x03#8]
              ++ (c.chain.map (fun l => BitVec.ofNat 8 l.val) ++ [0xFF#8, 0xFF#8, 0xFF#8]).take 3
              ++ field 1 c.current.val
              ++ [match c.phase with
                  | .waitGrant => 0x00#8 | .homing => 0x01#8 | .turning => 0x02#8 | .afterStop => 0x03#8]
              ++ [match c.dropSeen with | none => 0x00#8 | some _ => 0x01#8]
              ++ field 1 c.retriesLeft ++ field 1 c.turnsMade ++ field 1 c.availBounces ++ field 1 c.driveBounces
              ++ field 2 left) ∧
      record.length = 12 ∧ flight.length = 14 ∧
      ∀ t, exec .readVendResult s = .next t → ∀ n : Nat, ∃ u, exec (.nop n) t = .next u ∧
        u.port.sdo = (0x00#8 :: 0x23#8 :: (record ++ flight) ++ List.replicate (n + 1) 0x00#8).take (n + 1)

/-- R122, R123 and R26: an operation waiting alone for its grant, with no supply condition, is granted by an
evaluation the lesser of its demand and the limit, and its first run is switched on, a homing run when the lane is
HOMED and reads OFF_HOME or the operation is a HOME_LANE. On a lane that is held no drive is started: the lane is left
with cause HELD, the first run starts on the first later lane of the chain that is available, and with none the
operation ends FAILED with reason HELD, no turn made (R132). -/
def Obligations.VendGrantStartsTheFirstRun : Prop :=
  ∀ (s : State) (c : VendContext) (f : FittedLane) (d : Nat),
    s.supply.power = .running → s.supply.underLevel = false → s.supply.overLevel = false →
    s.vend.context = some c → c.phase = .waitGrant → s.lane c.current = some f →
    s.arbiter.table.vend = .waiting d → s.arbiter.table.payout = .idle → s.arbiter.table.compressor = .idle →
    s.arbiter.table.defrost = .idle →
    (f.laneClass = .ambient ∨ s.cooling.hold ≠ .latched →
      s.evaluate =
        { s with
          arbiter := { s.arbiter with table := { s.arbiter.table with vend := .granted d (min d s.arbiter.limit) } }
          drive := { context := some (f.freshDrive c.current), marker := some c.current }
          vend :=
            { s.vend with
              context :=
                some (VendContext.underway { c with budgetWait := none }
                  (decide (c.kind = .homeLane ∨ f.motor = .homed .offHome)) f.motor) } }) ∧
    (f.laneClass = .chilled → s.cooling.hold = .latched → s.VendLawful →
      ∀ before later : List LaneNo, c.chain = before ++ c.current :: later → c.current ∉ before →
        ((∀ l ∈ later, s.unavailable l ≠ none) →
          s.evaluate.drive = s.drive ∧ s.evaluate.lanes = s.lanes ∧ s.evaluate.vend.context = none ∧
            s.evaluate.port.isSet .vendDone = true ∧
            s.evaluate.vend.result =
              some
                { kind := c.kind, code := c.code, chosen := c.chosen, vended := none, outcome := .failed,
                  reason := some .held, price := c.price, turnsMade := 0,
                  availBounces := c.availBounces + 1 + later.length, driveBounces := c.driveBounces }) ∧
        ∀ (passed rest : List LaneNo) (l : LaneNo) (g : FittedLane), later = passed ++ l :: rest →
          (∀ p ∈ passed, s.unavailable p ≠ none) → s.unavailable l = none → s.lane l = some g →
          s.evaluate =
            { s with
              arbiter :=
                { s.arbiter with table := { s.arbiter.table with vend := .granted d (min d s.arbiter.limit) } }
              drive := { context := some (g.freshDrive l), marker := some l }
              vend :=
                { s.vend with
                  context :=
                    some
                      (VendContext.underway
                        { c with
                          budgetWait := none, current := l, retriesLeft := c.inForce.retries, leaveCause := none
                          availBounces := c.availBounces + 1 + passed.length }
                        (decide (c.kind = .homeLane ∨ g.motor = .homed .offHome)) g.motor) } })

/-- R122: when the budget wait runs out the operation ends FAILED with reason BUDGET, its request withdrawn and no
lane driven; a VEND's escrow returns to credit by its parts, and the session is OPEN with credit left and IDLE with
none, or with a cancel pending is closed like a CANCEL in OPEN (R106). An operation past its wait is not touched. The
command is the expiry itself, log entry 3, and the mark of a vend accepted in IDLE is the model's, log entry 22. -/
def Obligations.VendBudgetWaitEndsTheOperation : Prop :=
  ∀ s : State, s.supply.power = .running →
    ((∀ c, s.vend.context = some c → c.budgetWait = none) → exec .vendBudgetWaitExpiry s = .next s) ∧
    ∀ c, s.vend.context = some c → c.budgetWait ≠ none →
      ∃ t, exec .vendBudgetWaitExpiry s = .next t ∧ s.Kept t ∧ t.vend.context = none ∧
        t.vend.result =
          some
            { kind := c.kind, code := c.code, chosen := c.chosen, vended := c.dropSeen, outcome := .failed,
              reason := some .budget, price := c.price, turnsMade := c.turnsMade, availBounces := c.availBounces,
              driveBounces := c.driveBounces } ∧
        t.port.isSet .vendDone = true ∧ t.lanes = s.lanes ∧ t.drive = s.drive ∧ t.arbiter.table.vend = .idle ∧
        (c.kind ≠ .vend → t.session = s.session) ∧
        (c.kind = .vend → s.session.cancelPending = false →
          t.session.coin = s.session.coin + s.session.escrowCoin ∧
          t.session.cashless = s.session.cashless + s.session.escrowCashless ∧
          t.session.escrowCoin = 0 ∧ t.session.escrowCashless = 0 ∧ t.session.record = s.session.record ∧
          t.session.state =
            (if 0 < s.session.coin + s.session.escrowCoin ∨ 0 < s.session.cashless + s.session.escrowCashless then
              .opened
             else .idle)) ∧
        s.Ends c .failed (some .budget) t

/-- R28 and R29: the start level, HOME_OPENED, and the closed edge. The first level of a drive is taken once; a HOMED
lane's OPEN level reports HOME_OPENED once and stops T_start; the CLOSED level after it switches the lane off, and
with no drop seen yet and drop sensing ON a turn then waits in its window, its lane at HOME, while a homing run is
followed at once by the first turn, with drop sensing ON or OFF. On a lane that is held no turn follows: with the window
open it closes T_drop later and the lane is then left with cause HELD, and with none the lane is left at once (R123,
R124, R127, R129). With a drop seen before, the closed edge ends the operation VENDED, and so it ends a HOME_LANE, with a
drop or without (R124, R125, R128, R139). A TIMED lane's level reports nothing. Three points are the model's choice: a HOME_LEVEL_CHANGE before START_LEVEL_TAKEN gives the start level, and a later START_LEVEL_TAKEN has no
effect (log entry 23); a level already taken changes nothing (log entry 26); and the drive and the limits of the first
turn bear the marks that an expiry, a closed edge or an open check of the run before it, met by the closed edge that
ended it, is ignored (R35, log entry 31). -/
def Obligations.HomeSwitchEndsARunAtHome : Prop :=
  ∀ s : State, s.supply.power = .running →
    (s.drive.context = none → ∀ v, exec (.startLevelTaken v) s = .next s ∧ exec (.homeLevelChange v) s = .next s) ∧
    ∀ d, s.drive.context = some d →
      (∀ v w, d.homeLevel = some w → exec (.startLevelTaken v) s = .next s) ∧
      (∀ v, d.homeLevel = some v → exec (.homeLevelChange v) s = .next s) ∧
      (∀ v, d.homeLevel = none → d.stopCondition = .commanded ∨ v = .closed ∧ d.homeOpened = false →
        exec (.startLevelTaken v) s =
          .next { s with drive := { s.drive with context := some { d with homeLevel := some v } } }) ∧
      (d.edgeOver = true → d.homeLevel = none → exec (.homeLevelChange .closed) s = .next s) ∧
      (∀ v, d.homeLevel ≠ some v → d.edgeOver = false ∨ d.homeLevel ≠ none ∨ v = .opened →
        d.stopCondition = .commanded ∨ v = .closed ∧ d.homeOpened = false ∨ v = .opened ∧ d.homeOpened = true →
        exec (.homeLevelChange v) s =
          .next { s with drive := { s.drive with context := some { d with homeLevel := some v } } }) ∧
      (∀ c, d.stopCondition = .atHome → d.homeOpened = false → s.vend.context = some c →
        (d.homeLevel = none →
          exec (.startLevelTaken .opened) s =
            .next
              { s with
                drive := { s.drive with context := some { d with homeLevel := some .opened, homeOpened := true } }
                vend := { s.vend with context := some { c with tStart := none } } }) ∧
        (d.homeLevel ≠ some .opened →
          exec (.homeLevelChange .opened) s =
            .next
              { s with
                drive := { s.drive with context := some { d with homeLevel := some .opened, homeOpened := true } }
                vend := { s.vend with context := some { c with tStart := none } } })) ∧
      (∀ c f q, d.stopCondition = .atHome → d.homeOpened = true → d.homeLevel = some .opened →
        s.vend.context = some c → c.current = d.lane → s.lane d.lane = some f → f.motor = .homed q →
        c.kind ≠ .homeLane → c.dropSeen = none → ∀ a : State,
        a = { s.setLane d.lane (some { f with motor := .homed .home }) with drive := { context := none, marker := none } } →
        (c.phase = .turning → c.inForce.dropSensing = true → c.window = .opened none →
          exec (.homeLevelChange .closed) s =
            .next
              { a with
                vend :=
                  { s.vend with
                    context :=
                      some { c with
                             phase := .afterStop
                             window := .opened (some { elapsed := 0, limit := c.inForce.tDrop })
                             limitCause := none, tStart := none, tCycle := none, runTime := none } } }) ∧
        (c.phase = .homing → f.laneClass = .ambient ∨ s.cooling.hold ≠ .latched →
          c.inForce.dropSensing = true ∧ c.window = .opened none ∨ c.inForce.dropSensing = false ∧ c.window = .closed →
          s.arbiter.table.vend.isGranted = true → s.supply.underLevel = false → s.supply.overLevel = false →
          exec (.homeLevelChange .closed) s =
            .next
              { a with
                drive :=
                  { context := some { f.freshDrive d.lane with checkOver := !d.openCheckPassed }, marker := some d.lane }
                vend :=
                  { s.vend with
                    context :=
                      some
                        { VendContext.underway { c with runTime := none } false (.homed .home) with
                          tStart :=
                            some { elapsed := 0, limit := c.inForce.tStart, overtaken := limitSpent c.tStart }
                          tCycle :=
                            some { elapsed := 0, limit := c.inForce.tCycle, overtaken := limitSpent c.tCycle } } } }) ∧
        (c.phase = .homing → f.laneClass = .chilled → s.cooling.hold = .latched →
          (c.window = .opened none →
            exec (.homeLevelChange .closed) s =
              .next
                { a with
                  vend :=
                    { s.vend with
                      context :=
                        some { c with
                               phase := .afterStop, leaveCause := some .held
                               window := .opened (some { elapsed := 0, limit := c.inForce.tDrop })
                               limitCause := none, tStart := none, tCycle := none, runTime := none } } }) ∧
          (c.window = .closed → s.arbiter.table.vend.isGranted = true → s.supply.underLevel = false →
            s.supply.overLevel = false →
            ∃ u, a.LeavesLane { c with limitCause := none, tStart := none, tCycle := none, runTime := none } .held u ∧
              exec (.homeLevelChange .closed) s =
                .next
                  ((u.withLimitsOver c.tStart c.tCycle c.runTime).withDriveOver
                    { d with homeLevel := some .closed })))) ∧
      ∀ c f q, d.stopCondition = .atHome → d.homeOpened = true → d.homeLevel = some .opened →
        s.vend.context = some c → c.current = d.lane → s.lane d.lane = some f → f.motor = .homed q →
        c.phase = .homing ∨ c.phase = .turning → c.kind = .homeLane ∨ c.dropSeen ≠ none →
        ∃ t, exec (.homeLevelChange .closed) s = .next t ∧
          State.Ends
            { s.setLane d.lane (some { f with motor := .homed .home }) with drive := { context := none, marker := none } }
            c .vended none t

/-- R33 and R34: current above the stall threshold runs the debounce, at or below it stops it; the debounce's end is a
STALL and the open check below 0.05 A an OPEN, each a drive failure: the lane FAULTED with its cause, the count one
higher when it was ACTIVE, LANE_FAULT set, the lane switched off, and with a window open and no drop seen the
operation waits in it to leave the lane; with drop sensing OFF there is no window, and the lane is left at once (R129,
R132). With a drop seen before, the drive failure ends the operation VENDED, and a HOME_LANE it ends at once, FAILED with
reason DRIVE when no drop was seen (R131, R139). With no lane driven current is not measured. The marks on a run started
in the same event, and the open check that they make without effect (R35), are the model's, log entry 31. -/
def Obligations.DriveCurrentFaultsTheLane : Prop :=
  ∀ s : State, s.supply.power = .running →
    (s.drive.context = none → ∀ mA,
      exec (.driveCurrentChange mA) s = .next s ∧ exec .stallDebounceExpiry s = .next s ∧
        exec (.openCheck mA) s = .next s) ∧
    ∀ d, s.drive.context = some d →
      (∀ mA, d.stallThreshold < mA →
        exec (.driveCurrentChange mA) s =
          .next
            { s with drive :=
                { s.drive with
                  context :=
                    some { d with
                           stallDebounce :=
                             match d.stallDebounce with
                             | some t => some t
                             | none => some { elapsed := 0, limit := 50 } } } }) ∧
      (∀ mA, mA ≤ d.stallThreshold →
        exec (.driveCurrentChange mA) s =
          .next { s with drive := { s.drive with context := some { d with stallDebounce := none } } }) ∧
      (d.stallDebounce = none → exec .stallDebounceExpiry s = .next s) ∧
      (∀ mA, d.checkOver = true → d.homeLevel = none → exec (.openCheck mA) s = .next s) ∧
      (∀ mA, d.openCheckPassed = false → d.checkOver = false ∨ d.homeLevel ≠ none → 50 ≤ mA ∨ d.stallDebounce ≠ none →
        exec (.openCheck mA) s =
          .next { s with drive := { s.drive with context := some { d with openCheckPassed := true } } }) ∧
      (∀ mA, d.openCheckPassed = true → exec (.openCheck mA) s = .next s) ∧
      (∀ c f, s.vend.context = some c → c.current = d.lane → s.lane d.lane = some f → c.kind ≠ .homeLane →
        c.dropSeen = none → c.window = .opened none →
        ∀ (cause : FaultCause) (m : Motor),
          (∀ q, f.motor = .homed q → m = .homed .offHome) → (∀ ms, f.motor = .timed ms → m = f.motor) →
          (cause = .stall → d.stallDebounce ≠ none →
            exec .stallDebounceExpiry s = .next (s.failedDrive c d.lane f m cause)) ∧
          (∀ mA, cause = .openCircuit → d.openCheckPassed = false → d.checkOver = false ∨ d.homeLevel ≠ none →
            d.stallDebounce = none → mA < 50 →
            exec (.openCheck mA) s = .next (s.failedDrive c d.lane f m cause))) ∧
      (∀ c f outcome reason, s.vend.context = some c → c.current = d.lane → s.lane d.lane = some f →
        c.kind = .homeLane ∨ c.dropSeen ≠ none →
        (c.dropSeen ≠ none → outcome = .vended ∧ reason = none) →
        (c.dropSeen = none → outcome = .failed ∧ reason = some .drive) →
        ∀ (cause : FaultCause) (m : Motor),
          (∀ q, f.motor = .homed q → m = .homed .offHome) → (∀ ms, f.motor = .timed ms → m = f.motor) →
          (cause = .stall → d.stallDebounce ≠ none →
            ∃ t, exec .stallDebounceExpiry s = .next t ∧ (s.faultedLane d.lane f m cause).Ends c outcome reason t) ∧
          (∀ mA, cause = .openCircuit → d.openCheckPassed = false → d.checkOver = false ∨ d.homeLevel ≠ none →
            d.stallDebounce = none → mA < 50 →
            ∃ t, exec (.openCheck mA) s = .next t ∧ (s.faultedLane d.lane f m cause).Ends c outcome reason t)) ∧
      (∀ c f, s.vend.context = some c → c.current = d.lane → s.lane d.lane = some f → c.kind ≠ .homeLane →
        c.dropSeen = none → c.window = .closed → s.arbiter.table.vend.isGranted = true →
        s.supply.underLevel = false → s.supply.overLevel = false →
        ∀ (cause : FaultCause) (m : Motor),
          (∀ q, f.motor = .homed q → m = .homed .offHome) → (∀ ms, f.motor = .timed ms → m = f.motor) →
          (cause = .stall → d.stallDebounce ≠ none →
            ∃ u, (s.faultedLane d.lane f m cause).LeavesLane
                { c with limitCause := none, tStart := none, tCycle := none, runTime := none } .drive u ∧
              exec .stallDebounceExpiry s = .next ((u.withLimitsOver c.tStart c.tCycle c.runTime).withDriveOver d)) ∧
          (∀ mA, cause = .openCircuit → d.openCheckPassed = false → d.checkOver = false ∨ d.homeLevel ≠ none →
            d.stallDebounce = none → mA < 50 →
            ∃ u, (s.faultedLane d.lane f m cause).LeavesLane
                { c with limitCause := none, tStart := none, tCycle := none, runTime := none } .drive u ∧
              exec (.openCheck mA) s = .next ((u.withLimitsOver c.tStart c.tCycle c.runTime).withDriveOver d)))

/-- R125 and R126: T_start running out is a drive failure NO_START and T_cycle running out a JAM, with a window open
and no drop seen, and with drop sensing OFF the lane is left at once (R129, R132); the run time running out completes a
TIMED turn, which then waits in its window. With a drop seen before, each of the three ends the operation VENDED (R126,
R131); T_cycle ends a HOME_LANE without a fault, its lane OFF_HOME, VENDED with a drop seen and FAILED with reason DRIVE
without (R139). A limit that does not run changes nothing. The command is the expiry itself, log entry 3, but for one met
by the end of an earlier run, log entry 31. -/
def Obligations.RunLimitsEndTheRun : Prop :=
  ∀ (s : State) (runs : Option Timer → Prop), s.supply.power = .running →
    (∀ x, runs x ↔ ∃ t, x = some t ∧ t.overtaken = false) →
    (s.vend.context = none →
      exec .tStartExpiry s = .next s ∧ exec .tCycleExpiry s = .next s ∧ exec .runTimeExpiry s = .next s) ∧
    ∀ c, s.vend.context = some c →
      (¬runs c.tStart → exec .tStartExpiry s = .next s) ∧
      (¬runs c.tCycle → exec .tCycleExpiry s = .next s) ∧
      (¬runs c.runTime → exec .runTimeExpiry s = .next s) ∧
      (∀ d f, s.drive.context = some d → c.current = d.lane → s.lane d.lane = some f → c.kind ≠ .homeLane →
        c.dropSeen = none → c.window = .opened none →
        (∀ m : Motor, (∀ q, f.motor = .homed q → m = .homed .offHome) → (∀ ms, f.motor = .timed ms → m = f.motor) →
          (runs c.tStart → exec .tStartExpiry s = .next (s.failedDrive c d.lane f m .noStart)) ∧
          (runs c.tCycle → exec .tCycleExpiry s = .next (s.failedDrive c d.lane f m .jam))) ∧
        (runs c.runTime → c.inForce.dropSensing = true → c.limitCause = none →
          exec .runTimeExpiry s =
            .next
              { s with
                drive := { context := none, marker := none }
                vend :=
                  { s.vend with
                    context :=
                      some { c with
                             phase := .afterStop
                             window := .opened (some { elapsed := 0, limit := c.inForce.tDrop })
                             tStart := none, tCycle := none, runTime := none } } })) ∧
      (∀ d f q outcome reason, s.drive.context = some d → c.current = d.lane → s.lane d.lane = some f →
        f.motor = .homed q → c.kind = .homeLane → runs c.tCycle →
        (c.dropSeen ≠ none → outcome = .vended ∧ reason = none) →
        (c.dropSeen = none → outcome = .failed ∧ reason = some .drive) →
        ∃ t, exec .tCycleExpiry s = .next t ∧
          State.Ends
            { s.setLane d.lane (some { f with motor := .homed .offHome }) with
              drive := { context := none, marker := none } }
            c outcome reason t) ∧
      (∀ d f, s.drive.context = some d → c.current = d.lane → s.lane d.lane = some f → c.kind ≠ .homeLane →
        c.dropSeen ≠ none →
        (∀ m : Motor, (∀ q, f.motor = .homed q → m = .homed .offHome) → (∀ ms, f.motor = .timed ms → m = f.motor) →
          (runs c.tStart →
            ∃ t, exec .tStartExpiry s = .next t ∧ (s.faultedLane d.lane f m .noStart).Ends c .vended none t) ∧
          (runs c.tCycle →
            ∃ t, exec .tCycleExpiry s = .next t ∧ (s.faultedLane d.lane f m .jam).Ends c .vended none t)) ∧
        (runs c.runTime → c.limitCause = none →
          ∃ t, exec .runTimeExpiry s = .next t ∧
            State.Ends { s with drive := { context := none, marker := none } } c .vended none t)) ∧
      (∀ d f m e, s.drive.context = some d → c.current = d.lane → s.lane d.lane = some f → c.kind ≠ .homeLane →
        c.dropSeen = none → c.window = .closed → s.arbiter.table.vend.isGranted = true →
        s.supply.underLevel = false → s.supply.overLevel = false →
        (∀ q, f.motor = .homed q → m = .homed .offHome) → (∀ ms, f.motor = .timed ms → m = f.motor) →
        e = { c with limitCause := none, tStart := none, tCycle := none, runTime := none } →
        (runs c.tStart →
          ∃ u, (s.faultedLane d.lane f m .noStart).LeavesLane e .drive u ∧
            exec .tStartExpiry s = .next ((u.withLimitsOver none c.tCycle c.runTime).withDriveOver d)) ∧
        (runs c.tCycle →
          ∃ u, (s.faultedLane d.lane f m .jam).LeavesLane e .drive u ∧
            exec .tCycleExpiry s = .next ((u.withLimitsOver c.tStart none c.runTime).withDriveOver d)))

/-- R128 and R129: a drop in an open window, the first of the operation, is recorded with its lane, lowers a counted
stock by 1 and settles a VEND's escrow; with no lane driven the operation ends VENDED. Any other drop is ignored. With
drop sensing OFF the normal completion of a turn counts as the drop, and the operation ends VENDED at once. A VENDED end
closes the session in SINGLE mode and leaves the credit in MULTI, but for a pending cancel (R107, R108). The mark of a
vend accepted in IDLE is the model's, log entry 22, and the command of a run time is its expiry, log entry 3; a drop that
came together with the close of the window before is ignored, by the model's mark of log entry 31. -/
def Obligations.FirstDropInTheWindowSucceeds : Prop :=
  ∀ s : State, s.supply.power = .running →
    (s.vend.context = none → exec .dropSeen s = .next s) ∧
    ∀ c, s.vend.context = some c →
      (c.window = .closed ∨ c.dropSeen ≠ none ∨ c.afterClose = true → exec .dropSeen s = .next s) ∧
      (∀ w f k, c.window = .opened w → c.dropSeen = none → c.afterClose = false → s.lane c.current = some f →
        (∀ n cap, f.stock = .counted n cap → k = .counted (n - 1) cap) → (∀ b, f.stock = .uncounted b → k = f.stock) →
        ∀ e : Session,
          (c.kind = .vend →
            e = { s.session with
                  escrowCoin := 0, escrowCashless := 0
                  record :=
                    { s.session.record with
                      coinSales := s.session.record.coinSales + s.session.escrowCoin
                      cashlessUsed := s.session.record.cashlessUsed + s.session.escrowCashless } }) →
          (c.kind ≠ .vend → e = s.session) →
          (c.phase = .homing ∨ c.phase = .turning →
            exec .dropSeen s =
              .next
                { s.setLane c.current (some { f with stock := k }) with
                  vend := { s.vend with context := some { c with dropSeen := some c.current } }
                  session := e }) ∧
          (c.phase = .afterStop →
            ∃ t, exec .dropSeen s = .next t ∧ t.vend.context = none ∧ t.lane c.current = some { f with stock := k } ∧
              (c.kind ≠ .vend → t.session = s.session) ∧
              t.session.record.coinSales = e.record.coinSales ∧
              t.session.record.cashlessUsed = e.record.cashlessUsed ∧
              t.session.escrowCoin = e.escrowCoin ∧ t.session.escrowCashless = e.escrowCashless ∧
              t.port.isSet .vendDone = true ∧
              (∃ r, t.vend.result = some r ∧ r.outcome = .vended ∧ r.reason = none ∧ r.vended = some c.current) ∧
              State.Ends { s.setLane c.current (some { f with stock := k }) with session := e }
                { c with dropSeen := some c.current } .vended none t)) ∧
      (∀ d f k m, s.drive.context = some d → c.current = d.lane → s.lane d.lane = some f → c.kind ≠ .homeLane →
        c.inForce.dropSensing = false → c.dropSeen = none →
        (∀ n cap, f.stock = .counted n cap → k = .counted (n - 1) cap) → (∀ b, f.stock = .uncounted b → k = f.stock) →
        (∀ q, f.motor = .homed q → m = .homed .home) → (∀ ms, f.motor = .timed ms → m = f.motor) →
        ∀ e : Session,
          (c.kind = .vend →
            e = { s.session with
                  escrowCoin := 0, escrowCashless := 0
                  record :=
                    { s.session.record with
                      coinSales := s.session.record.coinSales + s.session.escrowCoin
                      cashlessUsed := s.session.record.cashlessUsed + s.session.escrowCashless } }) →
          (c.kind ≠ .vend → e = s.session) →
          ∀ u : State,
            u = { s.setLane d.lane (some { f with stock := k, motor := m }) with
                  drive := { context := none, marker := none }, session := e } →
            (d.stopCondition = .atHome → d.homeOpened = true → d.homeLevel = some .opened → c.phase = .turning →
              ∃ t, exec (.homeLevelChange .closed) s = .next t ∧
                u.Ends { c with dropSeen := some d.lane } .vended none t) ∧
            ((∃ ms, f.motor = .timed ms) → (∃ x, c.runTime = some x ∧ x.overtaken = false) → c.limitCause = none →
              ∃ t, exec .runTimeExpiry s = .next t ∧ u.Ends { c with dropSeen := some d.lane } .vended none t))

/-- R130 and R132: a window that closes with no drop seen was an empty turn. With retries left a further turn is
started on the same lane, unless it is held now and left with cause HELD; with none the lane's stock is emptied and the
lane left with cause EMPTY. A lane whose leave cause was set already, DRIVE or HELD, is left with it. Leaving goes to
the first later lane of the chain that is available, the lanes passed over counted; with none, or after the drive
bounce, the operation ends FAILED with the cause as its reason, or HELD when every lane that remained was held. After a
supply abort the close ends the operation ABORTED with reason SUPPLY, a VEND's escrow returned, whatever leave cause was
set (R135). The mark on a run that a close starts, for a drop that came together with it (R128), is the model's own, log
entry 31. -/
def Obligations.EmptyTurnRetriesThenLeavesTheLane : Prop :=
  ∀ s : State, s.supply.power = .running →
    ((∀ c t, s.vend.context = some c → c.window ≠ .opened (some t)) → exec .dropWindowClose s = .next s) ∧
    (∀ c x, s.vend.context = some c → c.window = .opened (some x) → c.supplyAborted = true → c.dropSeen = none →
      ∃ t, exec .dropWindowClose s = .next t ∧ s.Ends c .aborted (some .supply) t) ∧
    (∀ c x cause, s.vend.context = some c → c.window = .opened (some x) → c.supplyAborted = false →
      c.leaveCause = some cause → c.dropSeen = none → s.arbiter.table.vend.isGranted = true →
      s.supply.underLevel = false → s.supply.overLevel = false →
      ∃ u, s.LeavesLane c cause u ∧
        exec .dropWindowClose s = .next (u.withDropOver (decide (x.limit ≤ x.elapsed)))) ∧
    ∀ c f x, s.vend.context = some c → c.window = .opened (some x) → c.supplyAborted = false → c.leaveCause = none →
      s.lane c.current = some f → s.arbiter.table.vend.isGranted = true → s.supply.underLevel = false →
      s.supply.overLevel = false →
      (0 < c.retriesLeft → f.laneClass = .chilled → s.cooling.hold = .latched →
        ∃ u, s.LeavesLane { c with retriesLeft := c.retriesLeft - 1 } .held u ∧
          exec .dropWindowClose s = .next (u.withDropOver (decide (x.limit ≤ x.elapsed)))) ∧
      (∀ k, c.retriesLeft = 0 →
        (∀ n cap, f.stock = .counted n cap → k = .counted 0 cap) → (∀ b, f.stock = .uncounted b → k = .uncounted true) →
        ∃ u, (s.setLane c.current (some { f with stock := k })).LeavesLane c .empty u ∧
          exec .dropWindowClose s = .next (u.withDropOver (decide (x.limit ≤ x.elapsed)))) ∧
      (0 < c.retriesLeft → f.laneClass = .ambient ∨ s.cooling.hold ≠ .latched →
        exec .dropWindowClose s =
          .next
            { s with
              drive := { context := some (f.freshDrive c.current), marker := some c.current }
              vend :=
                { s.vend with
                  context :=
                    some
                    (VendContext.underway
                      { c with
                        window := .closed, retriesLeft := c.retriesLeft - 1
                        afterClose := c.afterClose || decide (x.limit ≤ x.elapsed) }
                      false f.motor) } }) ∧
      (∀ k, c.retriesLeft = 0 → c.motionBegun = true →
        (∀ n cap, f.stock = .counted n cap → k = .counted 0 cap) → (∀ b, f.stock = .uncounted b → k = .uncounted true) →
        (∀ before, c.chain = before ++ [c.current] → c.current ∉ before → c.dropSeen = none →
          ∃ t, exec .dropWindowClose s = .next t ∧ t.vend.context = none ∧
            t.lane c.current = some { f with stock := k } ∧ t.port.isSet .vendDone = true ∧
            ∃ r, t.vend.result = some r ∧ r.outcome = .failed ∧ r.reason = some .empty ∧ r.vended = none) ∧
        (∀ before later l g, c.chain = before ++ c.current :: l :: later → c.current ∉ before → l ≠ c.current →
          c.driveBounceUsed = false → s.unavailable l = none → s.lane l = some g →
          exec .dropWindowClose s =
            .next
              { s.setLane c.current (some { f with stock := k }) with
                drive := { context := some (g.freshDrive l), marker := some l }
                vend :=
                  { s.vend with
                    context :=
                      some (VendContext.underway
                        { c with
                          window := .closed, current := l, retriesLeft := c.inForce.retries, driveBounceUsed := true
                          driveBounces := 1, afterClose := c.afterClose || decide (x.limit ≤ x.elapsed) }
                        (decide (c.kind = .homeLane ∨ g.motor = .homed .offHome)) g.motor) } }))

/-- The laws of the drive and of the operation hold after every step from a state in which they and the Lane Table's
laws hold, while the part runs: a lane is driven only for an operation in flight, on its current lane, while the VEND
entry is GRANTED and the supply condition absent (R25), with the driving marker naming it (R39). -/
def Obligations.DriveLawsAreKept : Prop :=
  ∀ s t : State, s.LanesLawful → (s.supply.power = .running → s.DriveLawful ∧ s.VendLawful) → step s = .next t →
    t.supply.power = .running → t.DriveLawful ∧ t.VendLawful

/-! ## Coins in (04_coin_acceptance_and_routing.md) -/

/-- R62, R63 and R64: the checks of a presented coin in their order; a coin returned sets the last-reject record
alone; a coin accepted sets the diverter and enters the slot with the transit limit in force, its route being the
destination tube when that is ACTIVE, not FULL and of the same value. A coin that wakes a QUIET part has been returned
first. -/
def Obligations.CoinsAreCheckedInOrder : Prop :=
  ∀ (s : State) (y : Option CoinTypeNo) (ret : RejectReason → State), s.supply.power = .running →
    (∀ r, ret r = { s with coins := { s.coins with lastReject := some { reason := r, type := y } } }) →
    (s.supply.quiet = true → s.supply.wakeCoin = true → s.session.state = .idle ∨ s.session.state = .opened →
      exec (.coinPresented y) s = .next ((ret .quiet).setFlag .wake).leaveQuiet ∧
        ((ret .quiet).setFlag .wake).leaveQuiet.coins = (ret .quiet).coins ∧
        ((ret .quiet).setFlag .wake).leaveQuiet.supply = { s.supply with quiet := false }) ∧
    ((s.supply.quiet = true → s.supply.wakeCoin = false) →
      (s.session.state = .vending ∨ s.session.state = .paying →
        exec (.coinPresented y) s = .next (ret .sessionBusy)) ∧
      (s.session.state = .idle ∨ s.session.state = .opened →
        (s.supply.quiet = true → exec (.coinPresented y) s = .next (ret .quiet)) ∧
        (s.supply.quiet = false →
          (s.supply.door = .opened → exec (.coinPresented y) s = .next (ret .doorOpen)) ∧
          (s.supply.door = .closed →
            (s.coins.acceptance = false → exec (.coinPresented y) s = .next (ret .acceptOff)) ∧
            (s.coins.acceptance = true →
              (s.coins.slot ≠ none → exec (.coinPresented y) s = .next (ret .inTransit)) ∧
              (s.coins.slot = none →
                (s.supply.underLevel = true ∨ s.supply.overLevel = true →
                  exec (.coinPresented y) s = .next (ret .supply)) ∧
                (s.supply.underLevel = false → s.supply.overLevel = false →
                  (y = none → exec (.coinPresented y) s = .next (ret .unknownType)) ∧
                  ∀ (n : CoinTypeNo) (e : CoinEntry), y = some n → s.coins.table[n] = e →
                    (e.value = 0 → exec (.coinPresented y) s = .next (ret .notConfigured)) ∧
                    (e.value ≠ 0 →
                      (e.inhibit = true → exec (.coinPresented y) s = .next (ret .inhibited)) ∧
                      (e.inhibit = false →
                        (s.machine.creditCeiling < s.session.total + e.value →
                          exec (.coinPresented y) s = .next (ret .ceiling)) ∧
                        (s.session.total + e.value ≤ s.machine.creditCeiling →
                          (s.tubes.exactChange = true ∧ e.changeDependent = true →
                            exec (.coinPresented y) s = .next (ret .exactChange)) ∧
                          (s.tubes.exactChange = false ∨ e.changeDependent = false →
                            ∀ route,
                              ((∃ k, e.destination = .tube k ∧ route = .tube k ∧ (s.tube k).presence = .active ∧
                                  (s.tube k).count < (s.tube k).capacity ∧ (s.tube k).fullCovered = false ∧
                                  (s.tube k).value = e.value) ∨
                                (route = .cashbox ∧
                                  ∀ k, e.destination = .tube k →
                                    (s.tube k).presence ≠ .active ∨ (s.tube k).capacity ≤ (s.tube k).count ∨
                                      (s.tube k).fullCovered = true ∨ (s.tube k).value ≠ e.value)) →
                              exec (.coinPresented y) s =
                                .next
                                  { s with
                                    coins :=
                                      { s.coins with
                                        diverter := route
                                        slot :=
                                          some
                                            { type := n, value := e.value, route := route,
                                              timer := { elapsed := 0, limit := s.machine.transitLimit } } } })))))))))))

/-- R67 and R68, and the confirmation of R66: a pulse with a coin in transit credits its recorded value into the
session, which it opens from IDLE with a cleared Session Record, counts it into its tube unless that is ABSENT or its
value into the cashbox, sets COIN and empties the slot; the expiry of the limit empties the slot and sets COIN_PATH
alone; with the slot empty neither does anything. The mark on a restarted session timer is the model's own, log entry
31. -/
def Obligations.CoinInTransitIsConfirmedOrLost : Prop :=
  ∀ s : State, s.supply.power = .running →
    (s.coins.slot = none → exec .acceptSensorPulse s = .next s ∧ exec .transitLimitExpiry s = .next s) ∧
    ∀ x, s.coins.slot = some x →
      exec .transitLimitExpiry s =
        .next
          { s with
            coins := { s.coins with slot := none }
            port := { s.port with flags := s.port.flags ||| Flag.coinPath.word } } ∧
      ∀ (r : SessionRecord) (e : Session),
        (s.session.state = .idle → r = SessionRecord.initial) → (s.session.state ≠ .idle → r = s.session.record) →
        e = { s.session with
              coin := s.session.coin + x.value
              record := { r with accepted := r.accepted + x.value }
              state := if s.session.state = .idle then .opened else s.session.state
              timer :=
                if s.session.state = .idle then s.freshTimeout
                else if s.session.state = .opened then s.restartedTimeout
                else s.session.timer } →
        (x.route = .cashbox →
          exec .acceptSensorPulse s =
            .next
              { s with
                session := e
                coins := { s.coins with slot := none, cashbox := min 4294967295 (s.coins.cashbox + x.value) }
                port := { s.port with flags := s.port.flags ||| Flag.coin.word } }) ∧
        ∀ n u, x.route = .tube n →
          ((s.tube n).presence = .absent → u = { s with session := e }) →
          ((s.tube n).presence ≠ .absent →
            u = (({ s with session := e } : State).setTube n
                  { s.tube n with count := min 255 ((s.tube n).count + 1) }).evaluateExact) →
          exec .acceptSensorPulse s =
            .next
              { u with
                coins := { s.coins with slot := none }
                port := { u.port with flags := u.port.flags ||| Flag.coin.word } }

/-- R59 and R73, and SET_ACCEPT (R61, R74): what each request of the Coin Router writes and answers, and what it refuses;
nothing else changes. The coding of the gate and of an UNKNOWN coin type in the reply to SET_ACCEPT is the model's
choice, log entry 13. -/
def Obligations.CoinRouterRequestsWriteTheirOwnRecord : Prop :=
  ∀ s : State, s.TakesFrames →
    (∀ (mode : Byte) (a : Bool),
      (mode = 0x00#8 ∧ a = false ∨ mode = 0x01#8 ∧ a = true ∨ mode = 0x02#8 ∧ a = s.coins.acceptance) →
      exec (.setAccept mode) s =
        .next (({ s with coins := { s.coins with acceptance := a } } : State).answered s 2 0x33#8 .ok
          ({ s with coins := { s.coins with acceptance := a } } : State).routerFields)) ∧
    (∀ mode : Byte, 2 < mode.toNat → exec (.setAccept mode) s = .next (s.answered s 2 0x33#8 .outOfRange [])) ∧
    (∀ (y : Byte) (p : CoinParams), 15 < y.toNat ∨ (5 < p.destination.toNat ∧ p.destination ≠ 0xFF#8) →
      exec (.setCoinType y p) s = .next (s.answered s 7 0x34#8 .outOfRange [])) ∧
    (∀ (y : Byte) (n : CoinTypeNo) (p : CoinParams) (d : Route), y.toNat = n.val →
      (p.destination = 0xFF#8 ∧ d = .cashbox ∨ ∃ k : TubeNo, p.destination.toNat = k.val ∧ d = .tube k) →
      exec (.setCoinType y p) s =
        .next
          (({ s with
            coins :=
                { s.coins with
                  table :=
                    s.coins.table.set n
                      { value := min 10000 p.value.toNat, destination := d, inhibit := decide (p.inhibit ≠ 0x00#8),
                        changeDependent := decide (p.changeDependent ≠ 0x00#8) } } } : State).answered s 7 0x34#8 .ok
            (field 2 (min 10000 p.value.toNat) ++ [p.destination]
              ++ [if p.inhibit = 0x00#8 then 0x00#8 else 0x01#8]
              ++ [if p.changeDependent = 0x00#8 then 0x00#8 else 0x01#8]))) ∧
    exec .clearCashbox s =
      .next (({ s with coins := { s.coins with cashbox := 0 } } : State).answered s 1 0x3C#8 .ok
        (field 4 s.coins.cashbox))

/-! ## The session (06_credit_and_the_customer_session.md) -/

/-- R102: GRANT_CASHLESS grants the lesser of the amount asked and the headroom; a grant above 0 in IDLE clears the
Session Record and opens the session; in OPEN any amount is activity. It is refused in VENDING and PAYING, and in
QUIET unless CASHLESS is an enabled wake source; it then wakes the part, with WAKE set, and is handled as in ACTIVE. The
mark on a restarted session timer is the model's own, log entry 31. -/
def Obligations.CashlessGrantIsHeldToTheHeadroom : Prop :=
  ∀ (s : State) (amount : Half), s.TakesFrames →
    (s.supply.quiet = true →
      (s.supply.wakeCashless = false →
        exec (.grantCashless amount) s = .next (s.answered s 3 0x30#8 .quiet [])) ∧
      (s.supply.wakeCashless = true →
        exec (.grantCashless amount) s = exec (.grantCashless amount) (s.setFlag .wake).leaveQuiet ∧
          (s.setFlag .wake).leaveQuiet.supply = { s.supply with quiet := false } ∧
          (s.setFlag .wake).leaveQuiet.port.isSet .wake = true)) ∧
    (s.supply.quiet = false →
      (s.session.state = .vending ∨ s.session.state = .paying →
        exec (.grantCashless amount) s = .next (s.answered s 3 0x30#8 .busy [])) ∧
      ∀ g : Nat,
        g = min amount.toNat
          (s.machine.creditCeiling - (s.session.coin + s.session.cashless + s.session.escrowCoin
            + s.session.escrowCashless) - (match s.coins.slot with | none => 0 | some x => x.value)) →
        (s.session.state = .idle → g = 0 →
          exec (.grantCashless amount) s =
            .next (s.answered s 3 0x30#8 .ok
              (field 2 amount.toNat ++ field 2 0 ++ field 2 (s.session.coin + s.session.cashless)))) ∧
        (s.session.state = .idle ∧ 0 < g ∨ s.session.state = .opened →
          ∀ r : SessionRecord,
            (s.session.state = .idle → r = SessionRecord.initial) →
            (s.session.state = .opened → r = s.session.record) →
            exec (.grantCashless amount) s =
              .next
                (({ s with
                  session :=
                      { s.session with
                        cashless := s.session.cashless + g
                        record := { r with cashlessGranted := r.cashlessGranted + g }
                        state := .opened
                        timer := if s.session.state = .idle then s.freshTimeout else s.restartedTimeout } } :
                    State).answered s 3 0x30#8 .ok
                  (field 2 amount.toNat ++ field 2 g ++ field 2 (s.session.coin + (s.session.cashless + g))))))

/-- CANCEL by session state (R109) and the session timeout (R112): each settles the cashless credit; a CANCEL in OPEN
then asks for a payout of any coin credit, which is held behind an order that exists, and a timeout leaves coin credit
in OPEN; with none the session is IDLE. An expiry that meets an activity taken first does not take place (R113); that it
meets it when the timer was due is the model's reading, log entry 31. -/
def Obligations.CancelAndTimeoutSettleTheSession : Prop :=
  ∀ s : State,
    (s.TakesFrames →
      (s.session.state = .idle ∨ s.session.state = .paying →
        exec .cancel s =
          .next (s.answered s 1 0x31#8 .ok
            (field 1 s.session.state.code ++ [if s.session.cancelPending then 0x01#8 else 0x00#8]))) ∧
      (s.session.state = .vending →
        exec .cancel s =
          .next (({ s with session := { s.session with cancelPending := true } } : State).answered s 1 0x31#8 .ok
            (field 1 2 ++ [0x01#8]))) ∧
      (s.session.state = .opened →
        (s.session.coin = 0 →
          exec .cancel s =
            .next
              (({ s.settled with session := { s.settled.session with state := .idle, timer := none } } : State).answered
                s 1 0x31#8 .ok (field 1 0 ++ [if s.session.cancelPending then 0x01#8 else 0x00#8]))) ∧
        (0 < s.session.coin →
          (s.payout.order ≠ none →
            exec .cancel s =
              .next
                (({ s.settled with
                      session := { s.settled.session with state := .paying, timer := none }
                      payout := { s.payout with held := true } } : State).answered s 1 0x31#8 .ok
                  (field 1 3 ++ [if s.session.cancelPending then 0x01#8 else 0x00#8]))) ∧
          (s.payout.order = none →
            ∀ t u,
              u = State.createSessionOrder State.evaluate
                { s.settled with session := { s.settled.session with state := .paying, timer := none } } →
              t = u.withTimeoutOver s.session.timer →
              exec .cancel s =
                .next (t.answered s 1 0x31#8 .ok
                  (field 1 t.session.state.code ++ [if t.session.cancelPending then 0x01#8 else 0x00#8])))))) ∧
    (s.supply.power = .running →
      (s.session.timer = none → exec .sessionTimeoutExpiry s = .next s) ∧
      (∀ x, s.session.timer = some x → x.limit ≤ x.elapsed → s.session.state = .opened → ∀ (c : Instr) (t : State),
        (c = .acceptSensorPulse ∧ s.coins.slot ≠ none ∨ (∃ a, c = .grantCashless a) ∧ s.port.link ≠ .held ∧
          s.supply.quiet = false ∨ c = .cancel ∧ s.port.link ≠ .held) →
        exec c s = .next t → exec .sessionTimeoutExpiry t = .next t) ∧
      (∀ x, s.session.timer = some x → x.overtaken = true → exec .sessionTimeoutExpiry s = .next s) ∧
      (∀ x, s.session.timer = some x → x.overtaken = false →
        ∀ u : State, (s.session.cashless = 0 → u = s) → (0 < s.session.cashless → u = s.settled) →
          exec .sessionTimeoutExpiry s =
            .next
              { u with
                session :=
                  { u.session with
                    timer := none
                    state := if s.session.coin = 0 then .idle else s.session.state } }))

/-- The money laws hold after every step from a state in which they hold, while each side's figures stay as R98 and
R99 give: coin credit and escrow are what was accepted less what was sold and paid, cashless credit and escrow what
was granted less what was used and returned. And whatever the state, no step takes what stands against the credit
ceiling above the ceiling, but for credit already above it (R100). -/
def Obligations.MoneyLawsAreKept : Prop :=
  (∀ s t : State, s.MoneyLawful → step s = .next t → t.MoneyLawful) ∧
  ∀ s t : State, step s = .next t → t.exposure ≤ max s.exposure s.machine.creditCeiling

/-! ## Tubes (03_change_tubes_and_the_cassette.md) -/

/-- SET_TUBE, SET_TUBE_COUNT, CLEAR_TUBE_FAULT and SET_PROBES: their checks in order, and what each writes and answers
(R53, R54, R55, R56); each is followed by the exact-change evaluation, which turns the state on when a used probe
fails and sets EXACT_CHANGE at a change. Where the evaluation falls is log entry 28, and the form of the record in the
replies log entry 13. -/
def Obligations.TubeRequestsWriteTheTubeRecord : Prop :=
  (∀ s : State,
    (s.evaluateExact.tubes.exactChange = true ↔
      ∃ i : Fin 4, s.tubes.probes[i] ≠ 0 ∧ s.tubes.paysExactly s.tubes.probes[i] = false) ∧
    s.evaluateExact =
      { s with
        tubes := { s.tubes with exactChange := s.evaluateExact.tubes.exactChange }
        port :=
          { s.port with
            flags :=
              if s.evaluateExact.tubes.exactChange = s.tubes.exactChange then s.port.flags
              else s.port.flags ||| Flag.exactChange.word } }) ∧
  ∀ s : State, s.TakesFrames →
    (∀ a, exec (.setProbes a) s =
      .next ((({ s with
        tubes :=
          { s.tubes with
            probes := ⟨#[a.amount0.toNat, a.amount1.toNat, a.amount2.toNat, a.amount3.toNat], rfl⟩ } } :
          State).evaluateExact).answered s 9 0x38#8 .ok
        (field 2 a.amount0.toNat ++ field 2 a.amount1.toNat ++ field 2 a.amount2.toNat ++ field 2 a.amount3.toNat))) ∧
    (∀ b : Byte, 5 < b.toNat →
      (∀ p, exec (.setTube b p) s = .next (s.answered s 7 0x35#8 .outOfRange [])) ∧
      (∀ c, exec (.setTubeCount b c) s = .next (s.answered s 3 0x36#8 .outOfRange [])) ∧
      exec (.clearTubeFault b) s = .next (s.answered s 2 0x37#8 .outOfRange [])) ∧
    ∀ (b : Byte) (n : TubeNo), b.toNat = n.val →
      ((s.tube n).value = 0 →
        (∀ c, exec (.setTubeCount b c) s = .next (s.answered s 3 0x36#8 .notFitted [])) ∧
        exec (.clearTubeFault b) s = .next (s.answered s 2 0x37#8 .notFitted [])) ∧
      ((s.tube n).value ≠ 0 →
        (∀ c : Byte, c.toNat < (s.tube n).committed →
          exec (.setTubeCount b c) s = .next (s.answered s 3 0x36#8 .busy [])) ∧
        (∀ (c : Byte) (u : State), (s.tube n).committed ≤ c.toNat →
          u = (s.setTube n { s.tube n with count := c.toNat, verified := true }).evaluateExact →
          exec (.setTubeCount b c) s = .next (u.answered s 3 0x36#8 .ok (u.tube n).recordFields)) ∧
        ((s.tube n).presence = .fault →
          exec (.clearTubeFault b) s =
            .next ((s.setTube n { s.tube n with presence := .active }).evaluateExact.answered s 2 0x37#8 .ok [])) ∧
        ((s.tube n).presence ≠ .fault →
          exec (.clearTubeFault b) s = .next (s.answered s 2 0x37#8 .ok []))) ∧
      (s.payout.order ≠ none → ∀ p, exec (.setTube b p) s = .next (s.answered s 7 0x35#8 .busy [])) ∧
      (s.payout.order = none → ∀ (p : TubeParams) (r : Tube) (u : State),
        r.value = min 10000 p.value.toNat → r.capacity = max 1 p.capacity.toNat →
        r.lowMark = min (max 1 p.capacity.toNat - 1) p.lowMark.toNat → r.reserve = p.reserve.toNat →
        r.committed = (s.tube n).committed → r.fullCovered = (s.tube n).fullCovered →
        r.lowCovered = (s.tube n).lowCovered →
        (r.value = 0 → r.presence = .absent ∧ r.count = 0 ∧ r.verified = false) →
        (r.value ≠ 0 → (s.tube n).value = 0 →
          r.presence = (if s.tubes.cassette = .seated then .active else .absent) ∧ r.count = 0 ∧ r.verified = false) →
        (r.value ≠ 0 → (s.tube n).value ≠ 0 → r.presence = (s.tube n).presence ∧
          (r.value = (s.tube n).value → r.count = (s.tube n).count ∧ r.verified = (s.tube n).verified) ∧
          (r.value ≠ (s.tube n).value → r.count = 0 ∧ r.verified = false)) →
        u = (s.setTube n (if r.presence = .absent then r else r.clampBoth)).evaluateExact →
        exec (.setTube b p) s = .next (u.answered s 7 0x35#8 .ok (u.tube n).recordFields))

/-- R46, R47 and R48: a level sensor's transition is recorded whatever the presence; on an ACTIVE or FAULT tube it
applies its clamp, a changed count is no longer verified, and committed coins above the new count are trimmed, which
an order with a coin awaited replans at its confirmation and any other at once. Both clamps together apply the low
sensor first. A transition to the level already taken has no effect: the model's choice, log entry 26. -/
def Obligations.LevelSensorsClampTheCount : Prop :=
  (∀ t : Tube,
    (t.lowMark = 0 → t.clampLow = t) ∧
    (∀ n, t.lowMark ≠ 0 → n = (if t.lowCovered then max t.count t.lowMark else min t.count (t.lowMark - 1)) →
      t.clampLow =
        { t with count := n, verified := t.verified && decide (n = t.count), committed := min t.committed n }) ∧
    (t.fullCovered = false → t.clampFull = t) ∧
    (∀ n, t.fullCovered = true → n = min 255 (max t.count t.capacity) →
      t.clampFull =
        { t with count := n, verified := t.verified && decide (n = t.count), committed := min t.committed n }) ∧
    t.clampBoth = t.clampLow.clampFull) ∧
  ∀ (s : State) (n : TubeNo) (sensor : TubeSensor) (covered : Bool), s.supply.power = .running →
    ∀ (old : Bool) (r k : Tube),
      (sensor = .low → old = (s.tube n).lowCovered ∧ r = { s.tube n with lowCovered := covered } ∧ k = r.clampLow) →
      (sensor = .full → old = (s.tube n).fullCovered ∧ r = { s.tube n with fullCovered := covered } ∧
        k = r.clampFull) →
      (old = covered → exec (.levelSensorTransition n sensor covered) s = .next s) ∧
      (old ≠ covered →
        (r.presence = .absent ∨ k.count = r.count →
          exec (.levelSensorTransition n sensor covered) s = .next (s.setTube n r)) ∧
        (r.presence ≠ .absent → k.count ≠ r.count →
          (r.committed ≤ k.count ∨ s.payout.order = none →
            exec (.levelSensorTransition n sensor covered) s = .next (s.setTube n k).evaluateExact) ∧
          (k.count < r.committed →
            (∀ o, s.payout.order = some o → o.awaited ≠ none →
              exec (.levelSensorTransition n sensor covered) s =
                .next
                  { (s.setTube n k).evaluateExact with
                    payout := { s.payout with order := some { o with replanDue := true } } }) ∧
            (∀ o, s.payout.order = some o → o.awaited = none →
              exec (.levelSensorTransition n sensor covered) s =
                .next ((s.setTube n k).evaluateExact.replan State.evaluate)))))

/-- R49 to R52: a contact's change reads the code when both are closed and gives the cassette its state; each change
of state sets CASSETTE. SEATED makes every configured tube ACTIVE and unverified and clamps it; leaving SEATED makes
every tube ABSENT and unverified and ends an order with cause CASSETTE; any other change touches no tube. Three points
are the model's choice: a contact at the level already taken has no effect (log entry 26), a removal writes no sensor
level (log entry 27), and one evaluation follows the whole seating (log entry 28). -/
def Obligations.CassetteStateFollowsTheContacts : Prop :=
  ∀ (s : State) (k : Contact) (closed : Bool) (pins : Fin 4), s.supply.power = .running →
    ((k = .first ∧ s.tubes.contactFirst = closed ∨ k = .second ∧ s.tubes.contactSecond = closed) →
      exec (.cassetteContactChange k closed pins) s = .next s) ∧
    ∀ (a b : Bool) (code : Nat) (new : CassetteState) (tt : TubeTable) (u : State),
      (k = .first ∧ s.tubes.contactFirst ≠ closed ∧ a = closed ∧ b = s.tubes.contactSecond ∨
        k = .second ∧ s.tubes.contactSecond ≠ closed ∧ a = s.tubes.contactFirst ∧ b = closed) →
      code = (if a = true ∧ b = true then pins.val else s.tubes.cassetteCode) →
      new =
        (if a = true ∧ b = true then (if pins.val = s.machine.expectedCode then .seated else .mismatch)
         else if a = true ∨ b = true then .partlySeated else .removed) →
      tt = { s.tubes with contactFirst := a, contactSecond := b, cassetteCode := code, cassette := new } →
      u = { s with tubes := tt, port := { s.port with flags := s.port.flags ||| Flag.cassette.word } } →
      (new = s.tubes.cassette → exec (.cassetteContactChange k closed pins) s = .next { s with tubes := tt }) ∧
      (new ≠ s.tubes.cassette →
        (new ≠ .seated → s.tubes.cassette ≠ .seated → exec (.cassetteContactChange k closed pins) s = .next u) ∧
        (new = .seated → ∀ v : Vector Tube 6,
          (∀ n : Fin 6, v[n] =
            if s.tubes.tubes[n].value = 0 then s.tubes.tubes[n]
            else ({ s.tubes.tubes[n] with presence := .active, verified := false } : Tube).clampBoth) →
          exec (.cassetteContactChange k closed pins) s =
            .next ({ u with tubes := { tt with tubes := v } } : State).evaluateExact) ∧
        (s.tubes.cassette = .seated → ∀ v : Vector Tube 6,
          (∀ n : Fin 6, v[n] = { s.tubes.tubes[n] with presence := .absent, verified := false }) →
          (s.payout.order = none →
            exec (.cassetteContactChange k closed pins) s =
              .next ({ u with tubes := { tt with tubes := v } } : State).evaluateExact) ∧
          (s.payout.order ≠ none →
            exec (.cassetteContactChange k closed pins) s =
              .next (({ u with tubes := { tt with tubes := v } } : State).evaluateExact.endOrder State.evaluate
                .cassette))))

/-- Committed coins never exceed the count on any tube, and are 0 on every tube while there is no payout order, after
every step from a state in which that holds (R44). -/
def Obligations.CommitmentsStayWithinCounts : Prop :=
  ∀ s t : State, s.CommitmentsLawful → step s = .next t → t.CommitmentsLawful

/-! ## Planning and payout (05_change_planning_and_payout.md) -/

/-- What a plan is (R75, R78): no more coins from a tube than its basis and none from an unconfigured one; what it
pays and what remains make up the amount; reserves are kept to unless it says they were dipped or it cannot pay
exactly; and an amount that pass F alone pays exactly, as the change check and the probes ask, is planned exactly
(R79). Which plan it is (R76, R77, R78): the configured tubes in the planning order, highest value first; the greedy fill
of each pass and its one-coin back-off trials in that order; the first exact candidate of pass R, else the first exact one
of pass F with reserves dipped, else the candidate of pass F that leaves the least, the earliest of those. -/
def Obligations.PlansStayWithinTheBasis : Prop :=
  ∀ (tt : TubeTable) (a : Nat) (n : Fin 6),
    (tt.fullPlan a).coins[n] ≤ tt.tubes[n].basis ∧
    (tt.tubes[n].value = 0 → (tt.fullPlan a).coins[n] = 0) ∧
    tt.planValue (tt.fullPlan a).coins + (tt.fullPlan a).remaining = a ∧
    ((tt.fullPlan a).reserveDipped = true → (tt.fullPlan a).remaining = 0) ∧
    ((tt.fullPlan a).remaining = 0 → (tt.fullPlan a).reserveDipped = false →
      (tt.fullPlan a).coins[n] ≤ tt.tubes[n].basis - tt.tubes[n].reserve) ∧
    (tt.paysExactly a = true → (tt.fullPlan a).remaining = 0) ∧
    tt.paysExactly 0 = true ∧
    ∃ (tsR tsF : List PlanTube) (csR csF : List (List Nat)),
      tt.PlanningOrder true tsR ∧ tt.PlanningOrder false tsF ∧ PassCandidates tsR a csR ∧ PassCandidates tsF a csF ∧
      (tt.paysExactly a = true ↔ ∃ c ∈ csF, valueOf tsF c = a) ∧
      (∀ c, FirstExact tsR a csR c → (tt.fullPlan a).Gives tsR c ∧ (tt.fullPlan a).reserveDipped = false) ∧
      ((∀ c ∈ csR, valueOf tsR c ≠ a) →
        (∀ c, FirstExact tsF a csF c → (tt.fullPlan a).Gives tsF c ∧ (tt.fullPlan a).reserveDipped = true) ∧
        ((∀ c ∈ csF, valueOf tsF c ≠ a) → ∀ c, BestOf tsF csF c →
          (tt.fullPlan a).Gives tsF c ∧ (tt.fullPlan a).remaining = a - valueOf tsF c))

/-- DISPENSE (R82): its checks in order, and the order it creates, which plans from the named tube alone; and the
SESSION order (R81), planned for the whole coin credit. An order that plans a coin commits it and waits for its grant
(R83); one that plans none ends at once with cause SHORT, nothing committed. -/
def Obligations.OrdersPlanCommitAndWait : Prop :=
  (∀ (s : State) (b c : Byte), s.TakesFrames →
    (5 < b.toNat → exec (.dispense b c) s = .next (s.answered s 3 0x3A#8 .outOfRange [])) ∧
    ∀ n : TubeNo, b.toNat = n.val →
      (s.supply.quiet = true → exec (.dispense b c) s = .next (s.answered s 3 0x3A#8 .quiet [])) ∧
      (s.supply.quiet = false →
        (s.supply.door = .closed → exec (.dispense b c) s = .next (s.answered s 3 0x3A#8 .doorClosed [])) ∧
        (s.supply.door = .opened →
          (s.session.state ≠ .idle ∨ s.payout.order ≠ none →
            exec (.dispense b c) s = .next (s.answered s 3 0x3A#8 .busy [])) ∧
          (s.session.state = .idle → s.payout.order = none →
            ((s.tube n).value = 0 → exec (.dispense b c) s = .next (s.answered s 3 0x3A#8 .notFitted [])) ∧
            ((s.tube n).value ≠ 0 →
              ∀ (coins planned : Nat) (plan : Vector Nat 6) (reply : List Byte),
                coins = max 1 c.toNat →
                planned =
                  min coins (if (s.tube n).presence = .active then (s.tube n).count - (s.tube n).committed else 0) →
                plan[n] = planned → (∀ k : Fin 6, k ≠ n → plan[k] = 0) →
                reply = field 1 planned ++ field 4 ((coins - planned) * (s.tube n).value) →
                (0 < planned → s.arbiter.table.payout = .idle →
                  exec (.dispense b c) s =
                    .next
                      (((s.committing plan).waiting
                        (newOrder .dispense (coins * (s.tube n).value) (some (n, coins)) plan false)).answered s 3 0x3A#8
                        .ok reply)) ∧
                (planned = 0 → s.arbiter.table.payout = .idle →
                  ∃ t : State, exec (.dispense b c) s = .next (t.answered s 3 0x3A#8 .ok reply) ∧ s.Kept t ∧
                    t.payout.order = none ∧ t.arbiter = s.arbiter ∧ t.session = s.session ∧
                    (∀ k, t.tube k = { s.tube k with committed := 0 }) ∧
                    t.payout.record =
                      some
                        { source := .dispense, asked := coins * (s.tube n).value, paid := 0,
                          shortfall := coins * (s.tube n).value, perTube := Vector.replicate 6 0, cause := .short } ∧
                    t.port.isSet .payoutDone = true ∧ t.port.isSet .shortPay = true)))))) ∧
  ∀ s : State, s.payout.order = none → s.arbiter.table.payout = .idle →
    ((∃ n : Fin 6, (s.tubes.fullPlan s.session.coin).coins[n] ≠ 0) →
      s.createSessionOrder State.evaluate =
        (s.committing (s.tubes.fullPlan s.session.coin).coins).waiting
          (newOrder .session s.session.coin none (s.tubes.fullPlan s.session.coin).coins
            (s.tubes.fullPlan s.session.coin).reserveDipped)) ∧
    ((∀ n : Fin 6, (s.tubes.fullPlan s.session.coin).coins[n] = 0) → 0 < s.session.coin →
      ∃ t, s.createSessionOrder State.evaluate = t ∧ s.Kept t ∧ t.payout.order = none ∧ t.arbiter = s.arbiter ∧
        t.session = { s.session with state := .opened, timer := s.freshTimeout } ∧
        t.payout.record =
          some
            { source := .session, asked := s.session.coin, paid := 0, shortfall := s.session.coin,
              perTube := Vector.replicate 6 0, cause := .short } ∧
        t.port.isSet .payoutDone = true ∧ t.port.isSet .shortPay = true)

/-- R84, R85 and R86: the payout sensor's pulse confirms the coin awaited, which leaves its tube, the plan and a
SESSION order's coin credit; the next coin is pulsed from the tube of the highest value that the plan still takes a
coin from, the lowest number among equals, and after the last one the order ends COMPLETE or SHORT, and a session payout
held behind it is created (R80, R90), with a VEND in flight or without. The limit's expiry fires the retry pulse, and after the retry faults the tube. With
no coin awaited neither does anything. When the two arrive together the limit is due: after a confirmation the expiry
finds its coin confirmed, and after the fault of a tube the sensor pulse comes before the next solenoid pulse and is
ignored (R86). The marks for that are the model's, log entry 31, a pulse in another tube's solenoid runs on, log entry
32, and a VEND that the release of the grant lets end is ended within that release, log entry 11. -/
def Obligations.PayoutCoinsAreConfirmedRetriedOrFaulted : Prop :=
  ∀ s : State, s.supply.power = .running →
    ((∀ o, s.payout.order = some o → o.awaited = none) →
      exec .payoutSensorPulse s = .next s ∧ exec .payoutCoinLimitExpiry s = .next s) ∧
    ∀ (o : Order) (a : Awaited), s.payout.order = some o → o.awaited = some a →
      (a.timer.overtaken = true → exec .payoutCoinLimitExpiry s = .next s) ∧
      (a.afterFault = true → exec .payoutSensorPulse s = .next s) ∧
      (a.timer.overtaken = false → a.retry = false →
        exec .payoutCoinLimitExpiry s =
          .next
            { s with
              payout :=
                { s.payout with
                  order :=
                    some
                      { o with
                        awaited :=
                          some
                            { tube := a.tube, retry := true,
                              timer := { elapsed := 0, limit := s.machine.payoutCoinLimit } } }
                  solenoids := s.payout.solenoids.set a.tube (some { elapsed := 0, limit := 30 }) } }) ∧
      (a.timer.overtaken = false → a.retry = true → ∀ u : State,
        u = (({ s with port := { s.port with flags := s.port.flags ||| Flag.tubeFault.word } } : State).setTube a.tube
              { s.tube a.tube with
                presence := if (s.tube a.tube).presence = .active then .fault else (s.tube a.tube).presence
                committed := 0 }).evaluateExact →
        ∃ t, exec .payoutCoinLimitExpiry s = .next t ∧
          t =
            State.pulsedAfterFault (decide (a.timer.limit ≤ a.timer.elapsed))
              (({ u with
                payout :=
                  { s.payout with order := some { o with plan := o.plan.set a.tube 0, awaited := none } } } :
                State).replan State.evaluate) ∧
          (a.timer.limit ≤ a.timer.elapsed → exec .payoutSensorPulse t = .next t)) ∧
      ∀ (e : Session) (o' : Order) (u : State), a.afterFault = false →
        (o.source = .dispense → e = s.session) →
        (o.source = .session →
          e = { s.session with
                coin := s.session.coin - (s.tube a.tube).value
                record := { s.session.record with paid := s.session.record.paid + (s.tube a.tube).value } }) →
        o' = { o with
               paidPerTube := o.paidPerTube.set a.tube (o.paidPerTube[a.tube] + 1)
               paid := o.paid + (s.tube a.tube).value
               plan := o.plan.set a.tube (o.plan[a.tube] - 1)
               awaited := none } →
        u = (({ s with session := e, payout := { s.payout with order := some o' } } : State).setTube a.tube
              { s.tube a.tube with
                count := (s.tube a.tube).count - 1, committed := (s.tube a.tube).committed - 1 }).evaluateExact →
        (a.timer.limit ≤ a.timer.elapsed ∨ a.timer.overtaken = true → ∀ t, exec .payoutSensorPulse s = .next t →
          exec .payoutCoinLimitExpiry t = .next t) ∧
        (o.replanDue = true →
          exec .payoutSensorPulse s =
            .next (State.limitOvertaken (limitSpent (some a.timer)) (u.replan State.evaluate))) ∧
        (o.replanDue = false →
          (∀ k : TubeNo, o'.plan[k] ≠ 0 → (s.tube k).value ≠ 0 →
            (∀ j : TubeNo, o'.plan[j] ≠ 0 →
              (s.tube j).value < (s.tube k).value ∨ ((s.tube j).value = (s.tube k).value ∧ k ≤ j)) →
            exec .payoutSensorPulse s =
              .next
                { u with
                  payout :=
                    { s.payout with
                      order :=
                        some
                          { o' with
                            awaited :=
                              some
                                { tube := k, retry := false,
                                  timer :=
                                    { elapsed := 0, limit := s.machine.payoutCoinLimit
                                      overtaken := limitSpent (some a.timer) } } }
                      solenoids := s.payout.solenoids.set k (some { elapsed := 0, limit := 30 }) } }) ∧
          ((∀ k : TubeNo, o'.plan[k] = 0) →
            ∃ w : State, s.OrderEnded o' e (if o.asked - o'.paid = 0 then .complete else .short) w ∧
              exec .payoutSensorPulse s =
                .next (State.limitOvertaken (limitSpent (some a.timer)) w.heldReleased)))

/-- R88, with the end by an expired budget wait of R83: a replan releases every commitment, plans what is unpaid over
the bases as they then stand, a DISPENSE order from its tube alone, and commits it; the order goes on in its state, or
ends when the plan holds no coin. The end of an order with any cause is the same (R90), with a VEND in flight or without,
and a session payout held behind it is created (R80). An order whose budget wait expires ends with cause BUDGET, its
request withdrawn; one that is paying is not touched. The command is the expiry itself, log entry 3; a VEND that the
release of the grant lets end is ended within that release, log entry 11. -/
def Obligations.ReplansAndTheBudgetWaitOfAnOrder : Prop :=
  (∀ (s r : State) (o : Order) (plan : Vector Nat 6) (dipped : Bool),
    s.payout.order = some o → r = (s.committing (Vector.replicate 6 0)) →
    (o.dispensed = none →
      plan = (r.tubes.fullPlan (o.asked - o.paid)).coins ∧
        dipped = (r.tubes.fullPlan (o.asked - o.paid)).reserveDipped) →
    (∀ t coins, o.dispensed = some (t, coins) → dipped = false ∧ (∀ k : Fin 6, k ≠ t → plan[k] = 0) ∧
      plan[t] = min (coins - o.paidPerTube[t]) r.tubes.tubes[t].basis) →
    ((∃ n : Fin 6, plan[n] ≠ 0) →
      (o.state = .waitGrant →
        s.replan State.evaluate =
          { r.committing plan with
            payout :=
              { s.payout with order := some { o with plan := plan, reserveDipped := dipped, replanDue := false } } }) ∧
      (o.state = .paying →
        s.replan State.evaluate =
          (r.committing plan).pulseNext { o with plan := plan, reserveDipped := dipped, replanDue := false })) ∧
    ((∀ n : Fin 6, plan[n] = 0) →
      s.replan State.evaluate =
        State.endOrder State.evaluate (if o.asked - o.paid = 0 then .complete else .short)
          { r.committing plan with
            payout :=
              { s.payout with
                order := some { o with plan := plan, reserveDipped := dipped, replanDue := false } } })) ∧
  (∀ (s : State) (o : Order) (cause : PayoutCause), s.payout.order = some o →
    ∃ w : State, s.OrderEnded o s.session cause w ∧ State.endOrder State.evaluate cause s = w.heldReleased) ∧
  ∀ s : State, s.supply.power = .running →
    ((∀ o, s.payout.order = some o → o.budgetWait = none) → exec .payoutBudgetWaitExpiry s = .next s) ∧
    ∀ o, s.payout.order = some o → o.budgetWait ≠ none →
      ∃ w : State, s.OrderEnded o s.session .budget w ∧ exec .payoutBudgetWaitExpiry s = .next w.heldReleased

/-! ## Cooling (08_cabinet_cooling.md) -/

/-- R140, R141 and R142: what a reading makes of its channel: the last sample and the last fault kind, the two runs,
the status after three in a row, and the filtered temperature, seeded by the first valid sample and then moved by a
quarter of the difference toward each. A CABINET channel that faults begins the fallback cycle with the call on (R145)
and times toward the hold (R155); its changes and its recovery are handed to the thermostat (R144) and to the hold, and
the compressor answers a call that changes (R146, R147); a COIL change at or above the termination ends heating (R152,
R153). That the hold is evaluated once at a recovery, on the new temperature, is the model's choice, log entry 34. -/
def Obligations.SamplesFilterAndFaultAChannel : Prop :=
  ∀ (s : State) (ch : ChannelName) (reading : Reading) (last : LastSample) (c c' : Channel),
    s.supply.power = .running →
    (reading = .openCircuit → last = .fault .openCircuit) → (reading = .shortCircuit → last = .fault .shortCircuit) →
    (∀ t, reading = .temperature t →
      (t < -400 → last = .fault .openCircuit) ∧ (1250 < t → last = .fault .shortCircuit) ∧
        (-400 ≤ t → t ≤ 1250 → last = .valid t)) →
    (ch = .cabinet → c = s.cooling.cabinet) → (ch = .coil → c = s.cooling.coil) →
    (∀ t, last = .valid t →
      (c.status = .ok →
        (c.filtered = none → c' = { c with lastSample := some last, faultRun := 0, filtered := some t }) ∧
        (∀ x, c.filtered = some x →
          c' =
            { c with
              lastSample := some last
              faultRun := 0
              filtered :=
                some
                  (x + if t = x then 0 else if 0 < t - x ∧ t - x < 4 then 1 else if -4 < t - x ∧ t - x < 0 then -1
                    else (t - x).tdiv 4) })) ∧
      (c.status = .fault →
        (c.validRun + 1 < 3 → c' = { c with lastSample := some last, validRun := c.validRun + 1 }) ∧
        (3 ≤ c.validRun + 1 →
          c' = { c with lastSample := some last, status := .ok, faultRun := 0, validRun := 0, filtered := some t }))) →
    (∀ k, last = .fault k →
      (c.status = .ok →
        (c.faultRun + 1 < 3 → c' = { c with lastSample := some last, lastFault := some k, faultRun := c.faultRun + 1 }) ∧
        (3 ≤ c.faultRun + 1 →
          c' = { c with lastSample := some last, lastFault := some k, status := .fault, faultRun := 0, validRun := 0 })) ∧
      (c.status = .fault → c' = { c with lastSample := some last, lastFault := some k, validRun := 0 })) →
    ∃ u, exec (.thermistorSample ch reading) s = .next u ∧
      u.cooling.settings = s.cooling.settings ∧ u.supply = s.supply ∧ u.coins = s.coins ∧
      (c.status = .ok → c'.status = .fault → u.port.isSet .coolingFault = true) ∧
      (ch = .cabinet →
        u.cooling.cabinet = c' ∧ u.cooling.coil = s.cooling.coil ∧
        (c'.status = c.status → c'.filtered = c.filtered → u = { s with cooling := { s.cooling with cabinet := c' } }) ∧
        (c.status = .ok → c'.status = .fault →
          u.cooling.call = true ∧
          u.cooling.fallback = some (.on, { elapsed := 0, limit := s.cooling.settings.fallbackRun * 60000 }) ∧
          HoldAfter true s.cooling.hold s.cooling.holdTimer u.cooling.hold u.cooling.holdTimer) ∧
        (c.status = .fault → c'.status = .ok → u.cooling.fallback = none) ∧
        (c'.status = c.status → u.cooling.fallback = s.cooling.fallback) ∧
        (c'.status ≠ c.status ∨ c'.filtered ≠ c.filtered →
          ∃ w : State,
            State.CallTaken
              { s with
                cooling := { s.cooling with cabinet := c', fallback := u.cooling.fallback }
                port :=
                  { s.port with
                    flags :=
                      if c.status = .ok ∧ c'.status = .fault then s.port.flags ||| Flag.coolingFault.word
                      else s.port.flags } }
              u.cooling.call w ∧
            u = { w with
                  cooling := { w.cooling with hold := u.cooling.hold, holdTimer := u.cooling.holdTimer } }) ∧
        (c'.status = .ok → c.status = .fault ∨ c'.filtered ≠ c.filtered → ∀ x, c'.filtered = some x →
          s.CallFor s.effectiveSetpoint (some x) u.cooling.call ∧
          HoldAfter (decide ((s.cooling.settings.holdLimit : Int) < x)) s.cooling.hold s.cooling.holdTimer u.cooling.hold
            u.cooling.holdTimer)) ∧
      (ch = .coil →
        u.cooling.coil = c' ∧ u.cooling.cabinet = s.cooling.cabinet ∧
        u.cooling.hold = s.cooling.hold ∧ u.cooling.call = s.cooling.call ∧
        (∀ x, c'.status = .ok → c.status = .fault ∨ c'.filtered ≠ c.filtered → c'.filtered = some x →
          (s.cooling.settings.termination : Int) ≤ x → s.cooling.defrost = .heating →
          State.HeatingEnds { s with cooling := { s.cooling with coil := c' } } u ∧
          u.arbiter.table.defrost = .idle ∧
          (s.cooling.settings.drip ≠ 0 →
            u.cooling.defrost = .dripping ∧
            u.cooling.drip = some { elapsed := 0, limit := s.cooling.settings.drip * 60000 }) ∧
          (s.cooling.settings.drip = 0 → u.cooling.defrost = .none ∧ u.cooling.accumulatedRun = 0)) ∧
        (s.cooling.defrost ≠ .heating ∨ c'.status = .fault ∨ (c.status = .ok ∧ c'.filtered = c.filtered) →
          { u with port := s.port } = { s with cooling := { s.cooling with coil := c' } }))

/-- SET_COOLING, RELEASE_HOLD and START_DEFROST: what each refuses, and what it writes and answers (R143, R151, R156).
SET_COOLING clamps every setting, and applies at once to the thermostat, the hold and its delay, but leaves a hold that
the first seeding has yet to evaluate (R157; log entry 21 reads R155 so), then to the defrost interval, to heating that
has reached the maximum defrost, and to the compressor, which answers cooling enabled as it answers its call (R146,
R149). START_DEFROST makes a defrost due: with the compressor off it asks for its grant at once, from WAIT_BUDGET after
the compressor's withdrawal, and after minimum run it stops the compressor (R151). The payloads and the order in which
the settings apply are the model's choices, log entry 13. -/
def Obligations.CoolingRequestsAreAnswered : Prop :=
  ∀ s : State, s.TakesFrames →
    (s.cooling.hold = .clear → exec .releaseHold s = .next (s.answered s 1 0x42#8 .ok s.holdFields)) ∧
    (s.cooling.hold ≠ .clear →
      ((∃ x, s.cooling.cabinet.status = .ok ∧ s.cooling.cabinet.filtered = some x ∧
          x ≤ s.effectiveSetpoint + s.cooling.settings.differential) →
        ∀ t, t = ({ s with cooling := { s.cooling with hold := .clear, holdTimer := 0 } } : State) →
          exec .releaseHold s = .next (t.answered s 1 0x42#8 .ok t.holdFields)) ∧
      ((s.cooling.cabinet.status = .fault ∨ s.cooling.cabinet.filtered = none ∨
          ∃ x, s.cooling.cabinet.filtered = some x ∧
            s.effectiveSetpoint + s.cooling.settings.differential < x) →
        exec .releaseHold s = .next (s.answered s 1 0x42#8 .tooWarm s.holdFields))) ∧
    (s.cooling.defrost ≠ .none →
      exec .startDefrost s =
        .next (s.answered s 1 0x43#8 .busy (field 1 s.cooling.defrost.code ++ field 1 s.cooling.compressor.code))) ∧
    (s.cooling.defrost = .none → ∃ t : State,
      exec .startDefrost s =
        .next (t.answered s 1 0x43#8 .ok (field 1 t.cooling.defrost.code ++ field 1 t.cooling.compressor.code)) ∧
      s.Kept t ∧ s.DefrostDue t ∧
      (s.cooling.compressor = .offResting ∨ s.cooling.compressor = .offIdle → s.arbiter.table.defrost = .idle →
        t = State.evaluate
          { s with
            cooling := { s.cooling with defrost := .paused, defrostTimer := 0 }
            arbiter :=
              { s.arbiter with table := { s.arbiter.table with defrost := .waiting s.arbiter.defrostDemand } } }) ∧
      (s.cooling.compressor = .starting ∨ s.cooling.compressor = .running →
        (s.cooling.minimumRun ≠ none →
          t = { s with cooling := { s.cooling with defrost := .pending, defrostTimer := 0 } }) ∧
        (s.cooling.minimumRun = none → t.cooling.compressor = .offResting ∧
          t.cooling.minimumOff = some { elapsed := 0, limit := s.cooling.settings.minimumOff * 1000 }))) ∧
    (∀ p : CoolingParams, 1 < p.enabled.toNat →
      exec (.setCooling p) s = .next (s.answered s 19 0x40#8 .outOfRange [])) ∧
    (∀ p : CoolingParams, p.enabled.toNat ≤ 1 → ∃ t : State,
      exec (.setCooling p) s = .next (t.answered s 19 0x40#8 .ok t.cooling.settings.params.bytes) ∧
      t.cooling.settings =
        { setpoint := max (-50) (min 150 p.setpoint.toInt), differential := max 5 (min 50 p.differential.toNat),
          setback := min 100 p.setback.toNat, holdLimit := min 200 p.holdLimit.toNat,
          holdDelay := max 1 (min 240 p.holdDelay.toNat), minimumOff := max 60 (min 900 p.minimumOff.toNat),
          minimumRun := max 30 (min 600 p.minimumRun.toNat), startInterval := max 1 (min 10 p.startInterval.toNat),
          defrostInterval := max 1 (min 24 p.defrostInterval.toNat), termination := min 200 p.termination.toNat,
          maximumDefrost := max 5 (min 60 p.maximumDefrost.toNat), drip := min 15 p.drip.toNat,
          fallbackRun := max 1 (min 60 p.fallbackRun.toNat), fallbackOff := max 1 (min 60 p.fallbackOff.toNat),
          enabled := decide (p.enabled = 0x01#8) } ∧
      t.coins = s.coins ∧ t.machine = s.machine ∧ t.supply = s.supply ∧ t.image = s.image ∧
      t.cooling.cabinet = s.cooling.cabinet ∧ t.cooling.coil = s.cooling.coil ∧
      t.cooling.fallback = s.cooling.fallback ∧
      (s.cooling.cabinet.status = .fault → t.cooling.call = s.cooling.call) ∧
      (∀ u : State, u = { s with cooling := { s.cooling with settings := t.cooling.settings } } →
        (s.cooling.cabinet.status = .ok →
          u.CallFor u.effectiveSetpoint s.cooling.cabinet.filtered t.cooling.call) ∧
        ∃ v w : State, u.CallTaken t.cooling.call v ∧
          w =
            { v with
              cooling := { v.cooling with hold := t.cooling.hold, holdTimer := t.cooling.holdTimer }
              port :=
                { v.port with
                  flags :=
                    if s.cooling.hold ≠ .latched ∧ t.cooling.hold = .latched then v.port.flags ||| Flag.hold.word
                    else v.port.flags } } ∧
          ∀ due : Prop,
            (due ↔ w.cooling.defrost = .none ∧
              w.cooling.settings.defrostInterval * 3600 ≤ w.cooling.accumulatedRun) →
            (¬due → w.SettingsAnswered t) ∧ (due → ∃ x : State, w.DefrostDue x ∧ x.SettingsAnswered t)) ∧
      (s.cooling.cabinet.status = .ok → s.cooling.cabinet.filtered = none →
        (s.cooling.hold = .timing → t.cooling.settings.holdDelay * 60000 ≤ s.cooling.holdTimer →
          t.cooling.hold = .latched ∧ t.port.isSet .hold = true) ∧
        (s.cooling.hold ≠ .timing ∨ s.cooling.holdTimer < t.cooling.settings.holdDelay * 60000 →
          t.cooling.hold = s.cooling.hold ∧ t.cooling.holdTimer = s.cooling.holdTimer)) ∧
      ∀ cond : Bool, s.cooling.cabinet.status = .fault ∨ s.cooling.cabinet.filtered ≠ none →
        (cond = true ↔ s.cooling.cabinet.status = .fault ∨
          ∃ x, s.cooling.cabinet.filtered = some x ∧ (t.cooling.settings.holdLimit : Int) < x) →
        (s.cooling.hold = .timing → cond = true → t.cooling.settings.holdDelay * 60000 ≤ s.cooling.holdTimer →
          t.cooling.hold = .latched ∧ t.port.isSet .hold = true) ∧
        (s.cooling.hold ≠ .timing ∨ cond = false ∨ s.cooling.holdTimer < t.cooling.settings.holdDelay * 60000 →
          HoldAfter cond s.cooling.hold s.cooling.holdTimer t.cooling.hold t.cooling.holdTimer))

/-- What each expiry of the Cooling Controller does, and that one that finds nothing to end changes nothing: the end
of the start interval and of the minimum off (R146, R147), minimum run with a call, without one, and with a yield held
(R150), the count of accumulated run, which stops the compressor when a defrost becomes due after minimum run (R151), the
fallback phases, whose call the compressor answers (R145, R146), the ends of heating and of the drip (R152, R153) and the hold delay (R155). The commands are the
expiries themselves, log entry 3, and `runPhase` is the model's own, log entry 30. -/
def Obligations.CoolingExpiriesMoveTheirMachines : Prop :=
  ∀ s : State, s.supply.power = .running →
    (s.cooling.compressor ≠ .starting ∨ s.cooling.startInterval = none → exec .startIntervalEnd s = .next s) ∧
    (∀ d a, s.cooling.compressor = .starting → s.cooling.startInterval ≠ none → s.arbiter.pendingBudget = none →
      s.arbiter.table.compressor = .granted d a →
      exec .startIntervalEnd s =
        .next
          (State.evaluate
            { s with
              cooling := { s.cooling with compressor := .running, startInterval := none }
              arbiter :=
                { s.arbiter with
                  table :=
                    { s.arbiter.table with
                      compressor := .granted d (min a (min s.arbiter.table.compressorRun s.arbiter.budget)) } } })) ∧
    (∀ d a p g, s.cooling.compressor = .starting → s.cooling.startInterval ≠ none →
      s.arbiter.pendingBudget = some p → s.arbiter.table.compressor = .granted d a →
      g = { s.arbiter.table with compressor := .granted d (min a (min s.arbiter.table.compressorRun p)) } →
      exec .startIntervalEnd s =
        .next
          (State.evaluate
            { s with
              cooling := { s.cooling with compressor := .running, startInterval := none }
              arbiter :=
                { s.arbiter with
                  table := g
                  budget := if g.allocation ≤ p then p else s.arbiter.budget
                  pendingBudget := if g.allocation ≤ p then none else some p } })) ∧
    (s.cooling.compressor ≠ .offResting ∨ s.cooling.minimumOff = none → exec .minimumOffEnd s = .next s) ∧
    (s.cooling.compressor = .offResting → s.cooling.minimumOff ≠ none →
      (s.cooling.call = false ∨ s.cooling.settings.enabled = false ∨ s.cooling.defrost ≠ .none →
        exec .minimumOffEnd s =
          .next { s with cooling := { s.cooling with compressor := .offIdle, minimumOff := none } }) ∧
      (s.cooling.call = true → s.cooling.settings.enabled = true → s.cooling.defrost = .none →
        s.arbiter.table.compressor = .idle →
        exec .minimumOffEnd s =
          .next
            (State.evaluate
              { s with
                cooling := { s.cooling with compressor := .waitBudget, minimumOff := none }
                arbiter :=
                  { s.arbiter with
                    table :=
                      { s.arbiter.table with
                        compressor := .waiting s.arbiter.startDemand, compressorRun := s.arbiter.runDemand } } }))) ∧
    (s.cooling.minimumRun = none ∨ (s.cooling.compressor ≠ .starting ∧ s.cooling.compressor ≠ .running) →
      exec .minimumRunExpiry s = .next s) ∧
    (s.cooling.minimumRun ≠ none → s.cooling.compressor = .starting ∨ s.cooling.compressor = .running →
      ∀ stands : Prop,
        (stands ↔ s.cooling.yieldHeld = true ∧ s.arbiter.releaseMode = .ror ∧
          ∃ d, s.arbiter.table.vend = .waiting d ∧
            s.arbiter.limit < s.arbiter.table.allocation + min d s.arbiter.limit) →
        (¬stands → s.cooling.call = true → s.cooling.settings.enabled = true → s.cooling.defrost ≠ .pending →
          exec .minimumRunExpiry s =
            .next { s with cooling := { s.cooling with minimumRun := none, yieldHeld := false } }) ∧
        (stands ∨ s.cooling.call = false ∨ s.cooling.settings.enabled = false ∨ s.cooling.defrost = .pending →
          ∃ t : State, exec .minimumRunExpiry s = .next t ∧ s.Kept t ∧
            State.CompressorStops
              { s with cooling := { s.cooling with minimumRun := none, yieldHeld := false } } t ∧
            t.cooling.compressor = .offResting ∧
            t.cooling.minimumOff = some { elapsed := 0, limit := s.cooling.settings.minimumOff * 1000 } ∧
            t.cooling.minimumRun = none ∧ t.cooling.yieldHeld = false)) ∧
    (s.cooling.compressor ≠ .starting ∧ s.cooling.compressor ≠ .running → exec .accumulatedRunCount s = .next s) ∧
    (s.cooling.compressor = .starting ∨ s.cooling.compressor = .running → ∀ n,
      n = min 86400 (s.cooling.accumulatedRun + 1) →
      (n < s.cooling.settings.defrostInterval * 3600 ∨ s.cooling.defrost ≠ .none →
        exec .accumulatedRunCount s =
          .next { s with cooling := { s.cooling with accumulatedRun := n, runPhase := s.cooling.runPhase - 1000 } }) ∧
      (s.cooling.settings.defrostInterval * 3600 ≤ n → s.cooling.defrost = .none → s.cooling.minimumRun ≠ none →
        exec .accumulatedRunCount s =
          .next
            { s with
              cooling :=
                { s.cooling with
                  accumulatedRun := n, runPhase := s.cooling.runPhase - 1000, defrost := .pending
                  defrostTimer := 0 } }) ∧
      (s.cooling.settings.defrostInterval * 3600 ≤ n → s.cooling.defrost = .none → s.cooling.minimumRun = none →
        ∃ t : State, exec .accumulatedRunCount s = .next t ∧ s.Kept t ∧
          State.DefrostDue
            { s with cooling := { s.cooling with accumulatedRun := n, runPhase := s.cooling.runPhase - 1000 } } t ∧
          t.cooling.compressor = .offResting ∧
          t.cooling.minimumOff = some { elapsed := 0, limit := s.cooling.settings.minimumOff * 1000 } ∧
          t.cooling.minimumRun = none ∧ t.cooling.yieldHeld = false ∧
          (t.cooling.defrost = .paused ∨ t.cooling.defrost = .heating ∨ t.cooling.defrost = .dripping →
            t.cooling.accumulatedRun = n) ∧
          (t.cooling.defrost = .pending ∨ t.cooling.defrost = .none →
            s.cooling.settings.drip = 0 ∧ t.cooling.defrost = .none ∧ t.cooling.accumulatedRun = 0))) ∧
    (s.cooling.fallback = none → exec .fallbackPhaseEnd s = .next s) ∧
    (∀ x c, s.cooling.fallback = some (.on, x) →
      c = { s.cooling with
            fallback := some (.off, { elapsed := 0, limit := s.cooling.settings.fallbackOff * 60000 }) } →
      ∃ t : State, exec .fallbackPhaseEnd s = .next t ∧ t.cooling.call = false ∧ t.cooling.fallback = c.fallback ∧
        State.CallTaken { s with cooling := c } false t) ∧
    (∀ x c, s.cooling.fallback = some (.off, x) →
      c = { s.cooling with
            fallback := some (.on, { elapsed := 0, limit := s.cooling.settings.fallbackRun * 60000 }) } →
      ∃ t : State, exec .fallbackPhaseEnd s = .next t ∧ t.cooling.call = true ∧ t.cooling.fallback = c.fallback ∧
        State.CallTaken { s with cooling := c } true t) ∧
    (s.cooling.defrost ≠ .heating → exec .maximumDefrostReached s = .next s) ∧
    (s.cooling.defrost = .heating → ∃ t : State, exec .maximumDefrostReached s = .next t ∧ s.Kept t ∧
      State.HeatingEnds
        { s with
          cooling :=
            { s.cooling with
              defrostTimer := max s.cooling.defrostTimer (s.cooling.settings.maximumDefrost * 60000) } } t ∧
      t.arbiter.table.defrost = .idle ∧
      (s.cooling.settings.drip ≠ 0 →
        t.cooling.defrost = .dripping ∧
        t.cooling.drip = some { elapsed := 0, limit := s.cooling.settings.drip * 60000 }) ∧
      (s.cooling.settings.drip = 0 →
        t.cooling.defrost = .none ∧ t.cooling.drip = none ∧ t.cooling.accumulatedRun = 0)) ∧
    (s.cooling.defrost ≠ .dripping ∨ s.cooling.drip = none → exec .dripEnd s = .next s) ∧
    (s.cooling.defrost = .dripping → s.cooling.drip ≠ none → ∀ c : Cooling,
      c = { s.cooling with defrost := .none, drip := none, accumulatedRun := 0 } →
      (s.cooling.compressor = .offResting ∨
          s.cooling.compressor = .offIdle ∧ (s.cooling.call = false ∨ s.cooling.settings.enabled = false) →
        exec .dripEnd s = .next { s with cooling := c }) ∧
      (s.cooling.compressor = .offIdle → s.cooling.call = true → s.cooling.settings.enabled = true →
        s.arbiter.table.compressor = .idle →
        exec .dripEnd s =
          .next
            (State.evaluate
              { s with
                cooling := { c with compressor := .waitBudget }
                arbiter :=
                  { s.arbiter with
                    table :=
                      { s.arbiter.table with
                        compressor := .waiting s.arbiter.startDemand, compressorRun := s.arbiter.runDemand } } }))) ∧
    (s.cooling.hold ≠ .timing ∨ s.cooling.defrost = .heating ∨ s.cooling.defrost = .dripping →
      exec .holdDelayReached s = .next s) ∧
    (s.cooling.hold = .timing → s.cooling.defrost ≠ .heating → s.cooling.defrost ≠ .dripping →
      exec .holdDelayReached s =
        .next
          { s with
            cooling :=
              { s.cooling with
                hold := .latched, holdTimer := max s.cooling.holdTimer (s.cooling.settings.holdDelay * 60000) }
            port := { s.port with flags := s.port.flags ||| Flag.hold.word } })

/-- R148: the compressor relay and the heater are never on together, after every step from a state in which the
compressor is off while a defrost is in progress; and a compressor stop begins a fresh full minimum off, whose end
alone leaves OFF_RESTING, while the relay closes from no state but OFF_IDLE, WAIT_BUDGET or the end of that minimum
off. -/
def Obligations.CompressorAndHeaterAreNeverOnTogether : Prop :=
  (∀ s t : State, s.cooling.Apart → step s = .next t →
    t.cooling.Apart ∧ ¬(t.compressorRelay = true ∧ t.heaterRelay = true)) ∧
  ∀ (c : Instr) (s t : State), exec c s = .next t →
    (s.cooling.compressor = .offResting → c ≠ .minimumOffEnd → t.cooling.compressor = .offResting) ∧
    (s.cooling.compressor = .starting ∨ s.cooling.compressor = .running →
      t.cooling.compressor = .starting ∨ t.cooling.compressor = .running ∨
        (t.cooling.compressor = .offResting ∧
          t.cooling.minimumOff = some { elapsed := 0, limit := t.cooling.settings.minimumOff * 1000 }))

/-! ## Budget, supply and settings (09_supply_budget_and_the_quiet_state.md, 10_the_command_port_and_attention.md) -/

/-- R161: the sum of granted amounts never exceeds the effective budget, after every step from a state in which that
holds and no pending budget lies above it; an evaluation grants nothing while the supply condition is present or the
part does not run, and otherwise it grants in the order PAYOUT, VEND, COMPRESSOR, DEFROST what fits, stopping with FAIR on
at the first that does not, the last two passed over under ROR while a VEND waits unfitted (R160, R161). Each owner then
acts: a PAYOUT order is PAYING and pulses its first coin (R83, R84), a VEND's first run is switched on (R122), the
compressor is STARTING with its start interval and minimum run begun (R146), the defrost is HEATING, or ends at once with
the coil at termination or the defrost timer run out (R152, R153). A yield (R163) is held by a compressor that is
STARTING or within its minimum run, stops one that has passed it, and pauses heating, which asks again (R150, R154). That
every grant comes before the owners are told, and the yields last, is the model's choice, log entry 11. -/
def Obligations.GrantsStayWithinTheBudget : Prop :=
  (∀ s t : State, s.arbiter.WithinBudget → step s = .next t → t.arbiter.WithinBudget) ∧
  (∀ s : State, s.supply.underLevel = true ∨ s.supply.overLevel = true ∨ s.supply.power ≠ .running → s.evaluate = s) ∧
  ∀ s : State, s.supply.power = .running → s.supply.underLevel = false → s.supply.overLevel = false →
    (∀ t, s.Evaluated t → s.evaluate = t) ∧
    (∀ g u, s.Told g false u → s.arbiter.table.Newly g .defrost → s.cooling.defrost = .paused → s.DefrostTerminates →
      ¬s.Yields g → ∀ t, u.heatingEnded.Evaluated t →
      (s.cooling.settings.drip ≠ 0 → s.evaluate = t) ∧
      (s.cooling.settings.drip = 0 → ∀ x, x = t.defrostOver →
        (x.cooling.compressor = .offResting ∨
            x.cooling.compressor = .offIdle ∧ (x.cooling.call = false ∨ x.cooling.settings.enabled = false) →
          s.evaluate = x) ∧
        (x.cooling.compressor = .offIdle → x.cooling.call = true → x.cooling.settings.enabled = true →
          x.arbiter.table.compressor = .idle → ∀ y, x.compressorAsking.Evaluated y → s.evaluate = y))) ∧
    ∀ g p u, s.Granting g → s.PayoutTold g p → s.Yields g →
      u = { s with arbiter := { s.arbiter with table := g }, payout := p } →
      (g.compressor.isGranted = true → s.cooling.compressor = .running → s.cooling.minimumRun = none →
        g.defrost.isGranted = false → s.cooling.defrost ≠ .pending →
        ∀ t, u.compressorStopped.Evaluated t → s.evaluate = t) ∧
      (g.defrost.isGranted = true → s.cooling.defrost = .heating → g.compressor.isGranted = false →
        ∀ t, State.Evaluated
            { u with
              cooling := { u.cooling with defrost := .paused }
              arbiter := u.arbiter.released { g with defrost := .idle } } t →
          ∀ y, t.defrostAsking.Evaluated y → s.evaluate = y)

/-- SET_MACHINE, SET_BUDGET and SET_WAKE_SOURCES: each refuses the enumerated fields its rule names, clamps every
other field, writes its settings and answers with them (R186, R164, R171). A budget at or above the allocation is the
effective one at once, a lower one stands pending, and an evaluation follows. The payload of the reply to SET_BUDGET is
the model's choice, log entry 13. -/
def Obligations.SettingsRequestsClampAndAnswer : Prop :=
  ∀ s : State, s.TakesFrames →
    (∀ p : MachineParams, 1 < p.dropSensing.toNat ∨ 1 < p.vendMode.toNat →
      exec (.setMachine p) s = .next (s.answered s 20 0x60#8 .outOfRange [])) ∧
    (∀ (p : MachineParams) (m : MachineSettings), p.dropSensing.toNat ≤ 1 → p.vendMode.toNat ≤ 1 →
      m = { tStart := max 50 (min 2000 p.tStart.toNat), tCycle := max 500 (min 10000 p.tCycle.toNat),
            tDrop := max 100 (min 3000 p.tDrop.toNat), retries := min 2 p.retries.toNat,
            dropSensing := decide (p.dropSensing = 0x01#8), budgetWait := max 100 (min 30000 p.budgetWait.toNat),
            transitLimit := max 50 (min 1000 p.transitLimit.toNat),
            payoutCoinLimit := max 50 (min 1000 p.payoutCoinLimit.toNat),
            vendMode := if p.vendMode = 0x00#8 then .single else .multi,
            creditCeiling := max 1 p.creditCeiling.toNat, sessionTimeout := p.sessionTimeout.toNat,
            expectedCode := min 3 p.expectedCode.toNat } →
      exec (.setMachine p) s =
        .next (({ s with machine := m } : State).answered s 20 0x60#8 .ok
          (field 2 m.tStart ++ field 2 m.tCycle ++ field 2 m.tDrop ++ field 1 m.retries ++ [p.dropSensing]
            ++ field 2 m.budgetWait ++ field 2 m.transitLimit ++ field 2 m.payoutCoinLimit ++ [p.vendMode]
            ++ field 2 m.creditCeiling ++ field 1 m.sessionTimeout ++ field 1 m.expectedCode))) ∧
    (∀ p : BudgetParams, 1 < p.fair.toNat ∨ 1 < p.releaseMode.toNat →
      exec (.setBudget p) s = .next (s.answered s 8 0x50#8 .outOfRange [])) ∧
    (∀ (p : BudgetParams) (b : Nat) (t : State), p.fair.toNat ≤ 1 → p.releaseMode.toNat ≤ 1 →
      b = max 10 (min 250 p.budget.toNat) →
      t = State.evaluate
        { s with
          arbiter :=
            { table := s.arbiter.table
              budget := if s.arbiter.table.allocation ≤ b then b else s.arbiter.budget
              pendingBudget := if s.arbiter.table.allocation ≤ b then none else some b
              payoutDemand := max 1 (min 250 p.payoutDemand.toNat)
              startDemand := max 1 (min 250 p.startDemand.toNat)
              runDemand := max 1 (min 250 p.runDemand.toNat)
              defrostDemand := max 1 (min 250 p.defrostDemand.toNat)
              fair := decide (p.fair = 0x01#8)
              releaseMode := if p.releaseMode = 0x00#8 then .rwd else .ror } } →
      exec (.setBudget p) s = .next (t.answered s 8 0x50#8 .ok t.budgetFields)) ∧
    (∀ p : WakeParams, 1 < p.coin.toNat ∨ 1 < p.door.toNat ∨ 1 < p.cashless.toNat →
      exec (.setWakeSources p) s = .next (s.answered s 4 0x54#8 .outOfRange [])) ∧
    (∀ p : WakeParams, p.coin.toNat ≤ 1 → p.door.toNat ≤ 1 → p.cashless.toNat ≤ 1 →
      exec (.setWakeSources p) s =
        .next
          (({ s with
            supply :=
                { s.supply with
                  wakeCoin := decide (p.coin = 0x01#8), wakeDoor := decide (p.door = 0x01#8)
                  wakeCashless := decide (p.cashless = 0x01#8) } } : State).answered s 4 0x54#8 .ok
            [p.coin, p.door, p.cashless]))

/-- The requests that only read change nothing but the pending reply: READ_SESSION with its fields in the order of
R114, READ_SUPPLY with those of R173, whose seen flags a clear yes then clears, and READ_TUBES, READ_PAYOUT_RESULT,
READ_COOLING and READ_BUDGET with the model's payloads, log entry 13. -/
def Obligations.ReadsAnswerAndChangeNothing : Prop :=
  ∀ (s : State) (yes : Bool → Byte), s.TakesFrames → yes true = 0x01#8 → yes false = 0x00#8 →
    exec .readSession s =
      .next (s.answered s 1 0x32#8 .ok
        (field 2 s.session.coin ++ field 2 s.session.cashless ++ field 2 s.session.escrowCoin
          ++ field 2 s.session.escrowCashless
          ++ field 2 (s.session.coin + s.session.cashless + s.session.escrowCoin + s.session.escrowCashless)
          ++ field 2 s.headroom ++ field 1 s.session.state.code ++ [yes s.session.cancelPending]
          ++ (match s.session.timer with
              | none => [0xFF#8, 0xFF#8, 0xFF#8, 0xFF#8]
              | some t => field 4 (t.limit - t.elapsed))
          ++ [yes (decide (s.machine.vendMode = .multi))] ++ field 2 s.machine.creditCeiling
          ++ field 1 s.machine.sessionTimeout ++ field 4 s.session.record.accepted
          ++ field 4 s.session.record.coinSales ++ field 4 s.session.record.paid
          ++ field 4 s.session.record.cashlessGranted ++ field 4 s.session.record.cashlessUsed
          ++ field 4 s.session.record.cashlessReturned ++ [yes s.payout.held])) ∧
    exec .readTubes s = .next (s.answered s 1 0x39#8 .ok s.tubeFields) ∧
    exec .readPayoutResult s = .next (s.answered s 1 0x3B#8 .ok (recordFields s.payout.record ++ s.orderFields)) ∧
    exec .readCooling s = .next (s.answered s 1 0x41#8 .ok s.coolingFields) ∧
    exec .readBudget s = .next (s.answered s 1 0x51#8 .ok s.budgetFields) ∧
    ∀ (clear : Byte) (payload : List Byte),
      payload =
        [yes (s.supply.underLevel || s.supply.overLevel), yes s.supply.underLevel, yes s.supply.overLevel,
          yes s.supply.underSeen, yes s.supply.overSeen, yes (decide (s.supply.door = .closed)), yes s.supply.quiet,
          yes s.supply.wakeCoin, yes s.supply.wakeDoor, yes s.supply.wakeCashless]
          ++ field 1 s.supply.cell.code
          ++ [yes (decide (s.supply.startKind = .cold)), yes s.image.imageBad] ++ field 1 s.image.result.code →
      (clear = 0x00#8 → exec (.readSupply clear) s = .next (s.answered s 2 0x55#8 .ok payload)) ∧
      (clear = 0x01#8 →
        exec (.readSupply clear) s =
          .next (({ s with supply := { s.supply with underSeen := false, overSeen := false } } : State).answered s 2
            0x55#8 .ok payload)) ∧
      (1 < clear.toNat → exec (.readSupply clear) s = .next (s.answered s 2 0x55#8 .outOfRange []))

/-- QUIET, the wakes, the door, the cell and the supply monitor: ENTER_QUIET needs the session IDLE and nothing in
flight (R170); WAKE leaves QUIET without the flag and an enabled DOOR change with it (R171), and the compressor answers a
call that changes (R144, R146); a cell sample that changes to WEAK or DEAD sets CELL (R172); a supply event latches its
flag, sets SUPPLY, revokes every grant and stops the drive, the compressor, the heater, the order and the operation
(R166, R167): a driven HOMED lane is OFF_HOME, the operation waits T_drop in its open window or ends, ABORTED unless a
drop was seen (R135, R139), its session moved (R106), and the order ends with cause SUPPLY, the session payout held behind
it created (R90, R91); an evaluation follows its clearing (R168). Four points are the model's choice: a comparator event
that is not beyond its threshold has no effect (log entry 10), nor has a door change to the level already taken (log
entry 26), an event of a kind already asserted acts as a further one (log entry 29), and the vend takes a supply event
before the payout does, an order created in the event being no order that it ends (log entry 12). -/
def Obligations.QuietWakeDoorCellAndSupplyEvents : Prop :=
  (∀ s : State, s.TakesFrames →
    (s.supply.quiet = true → exec .enterQuiet s = .next (s.answered s 1 0x52#8 .ok [])) ∧
    (s.supply.quiet = false →
      exec .wake s = .next (s.answered s 1 0x53#8 .ok []) ∧
      (s.session.state ≠ .idle ∨ s.vend.context ≠ none ∨ s.payout.order ≠ none ∨ s.coins.slot ≠ none →
        exec .enterQuiet s = .next (s.answered s 1 0x52#8 .busy [])) ∧
      (s.session.state = .idle → s.vend.context = none → s.payout.order = none → s.coins.slot = none →
        ∃ t : State, exec .enterQuiet s = .next (t.answered s 1 0x52#8 .ok []) ∧
          t.supply = { s.supply with quiet := true } ∧ t.coins = s.coins ∧ t.session = s.session ∧
          t.lanes = s.lanes ∧ t.tubes = s.tubes ∧ t.port = s.port ∧ t.cooling.hold = s.cooling.hold ∧
          State.CallTaken { s with supply := { s.supply with quiet := true } } t.cooling.call t ∧
          (s.cooling.cabinet.status = .fault → t.cooling.call = s.cooling.call) ∧
          (s.cooling.cabinet.status = .ok →
            s.CallFor (s.cooling.settings.setpoint + (s.cooling.settings.setback : Int)) s.cooling.cabinet.filtered
              t.cooling.call))) ∧
    (s.supply.quiet = true →
      ∃ t : State, exec .wake s = .next (t.answered s 1 0x53#8 .ok []) ∧ t = s.leaveQuiet ∧
        State.CallTaken { s with supply := { s.supply with quiet := false } } t.cooling.call t ∧
        t.supply = { s.supply with quiet := false } ∧ t.coins = s.coins ∧ t.cooling.hold = s.cooling.hold ∧
        t.port.isSet .wake = s.port.isSet .wake ∧
        (s.cooling.cabinet.status = .fault → t.cooling.call = s.cooling.call) ∧
        (s.cooling.cabinet.status = .ok →
          s.CallFor s.cooling.settings.setpoint s.cooling.cabinet.filtered t.cooling.call))) ∧
  ∀ s : State, s.supply.power = .running →
    (∀ d, s.supply.door = d → exec (.doorChange d) s = .next s) ∧
    (∀ d, s.supply.door ≠ d →
      (s.supply.quiet = false ∨ s.supply.wakeDoor = false →
        exec (.doorChange d) s = .next { s with supply := { s.supply with door := d } }) ∧
      (s.supply.quiet = true → s.supply.wakeDoor = true →
        ∃ t : State, exec (.doorChange d) s = .next t ∧ t.supply = { s.supply with door := d, quiet := false } ∧
          t.port.isSet .wake = true ∧
          State.CallTaken
            { s with
              supply := { s.supply with door := d, quiet := false }
              port := { s.port with flags := s.port.flags ||| Flag.wake.word } }
            t.cooling.call t ∧
          (s.cooling.cabinet.status = .fault → t.cooling.call = s.cooling.call) ∧
          (s.cooling.cabinet.status = .ok →
            s.CallFor s.cooling.settings.setpoint s.cooling.cabinet.filtered t.cooling.call))) ∧
    (∀ mv c, c = (if 2700 ≤ mv then CellState.good else if 2400 ≤ mv then .weak else .dead) →
      exec (.cellSample mv) s =
        .next
          { s with
            supply := { s.supply with cell := c }
            port :=
              { s.port with
                flags :=
                  if c ≠ s.supply.cell ∧ c ≠ .good then s.port.flags ||| Flag.cell.word else s.port.flags } }) ∧
    (∀ mv, (19000 ≤ mv → exec (.supplyEvent .under mv) s = .next s) ∧
      (mv ≤ 30000 → exec (.supplyEvent .over mv) s = .next s) ∧
      (mv ≤ 20000 → exec (.supplyCleared .under mv) s = .next s) ∧
      (29000 ≤ mv → exec (.supplyCleared .over mv) s = .next s)) ∧
    (∀ (k : SupplyKind) (mv : Nat) (u : Supply),
      (k = .under → mv < 19000 ∧ u = { s.supply with underLevel := true, underSeen := true }) →
      (k = .over → 30000 < mv ∧ u = { s.supply with overLevel := true, overSeen := true }) →
      ∃ t : State, exec (.supplyEvent k mv) s = .next t ∧ t.supply = u ∧ t.port.isSet .supply = true ∧ t.coins = s.coins ∧
        t.drive.context = none ∧ t.arbiter.table.allocation = 0 ∧ t.arbiter.pendingBudget = none ∧
        t.arbiter.budget = s.arbiter.limit ∧
        (s.cooling.compressor = .starting ∨ s.cooling.compressor = .running →
          t.cooling.compressor = .offResting) ∧
        (s.cooling.compressor ≠ .starting → s.cooling.compressor ≠ .running →
          t.cooling.compressor = s.cooling.compressor) ∧
        (s.cooling.defrost = .heating → t.cooling.defrost = .paused) ∧
        (∀ o, s.payout.order = some o → s.payout.held = false →
          (∀ c, s.vend.context = some c → c.kind ≠ .vend) →
          t.payout.order = none ∧
            ∃ r, t.payout.record = some r ∧ r.cause = .supply ∧ r.shortfall = o.asked - o.paid) ∧
        (∀ o, s.payout.order = some o →
          ∃ a w : State, a.supply = u ∧ a.machine = s.machine ∧ a.tubes = s.tubes ∧
            a.OrderEnded o a.session .supply w ∧ t.payout = w.heldReleased.payout ∧ t.tubes = w.heldReleased.tubes ∧
            t.session = w.heldReleased.session ∧
            ((∀ c, s.vend.context = some c → c.kind = .vend → t.vend.context ≠ none) →
              a.session = s.session ∧ a.payout.held = s.payout.held) ∧
            ∀ c, s.vend.context = some c → c.kind = .vend → t.vend.context = none →
              ∃ b q : State, b.session = s.session ∧ b.machine = s.machine ∧ b.payout.order ≠ none ∧
                b.payout.held = s.payout.held ∧
                b.VendEndMoves (if c.dropSeen = none then .aborted else .vended) c.fromIdle q ∧
                a.session = q.session ∧ a.payout.held = q.payout.held) ∧
        (s.payout.order = none →
          ((∀ c, s.vend.context = some c → c.kind = .vend → t.vend.context ≠ none) →
            t.session = s.session ∧ t.payout = s.payout ∧ t.tubes = s.tubes) ∧
          ∀ c, s.vend.context = some c → c.kind = .vend → t.vend.context = none →
            ∃ b q : State, b.session = s.session ∧ b.machine = s.machine ∧ b.payout = s.payout ∧ b.tubes = s.tubes ∧
              b.supply = u ∧
              b.VendEndMoves (if c.dropSeen = none then .aborted else .vended) c.fromIdle q ∧
              t.session = q.session ∧ t.payout = q.payout ∧ t.tubes = q.tubes) ∧
        (∀ c, s.vend.context = some c → s.drive.context = none → c.supplyAborted = false → c.window = .closed →
          t.vend.context = none ∧
            ∃ r, t.vend.result = some r ∧
              (c.dropSeen = none → r.outcome = .aborted ∧ r.reason = some .supply)) ∧
        (∀ c x, s.vend.context = some c → s.drive.context = none → c.phase = .afterStop → c.supplyAborted = false →
          c.kind ≠ .homeLane → c.dropSeen = none → c.window = .opened (some x) →
          t.lanes = s.lanes ∧
            t.vend =
              { s.vend with
                context :=
                  some { c with
                         supplyAborted := true, limitCause := none, tStart := none, tCycle := none, runTime := none } }) ∧
        (∀ c d f m, s.vend.context = some c → s.drive.context = some d → c.current = d.lane →
          c.phase = .homing ∨ c.phase = .turning → c.supplyAborted = false → s.lane d.lane = some f →
          (∀ q, f.motor = .homed q → m = .homed .offHome) → (∀ ms, f.motor = .timed ms → m = f.motor) →
          t.drive = { context := none, marker := none } ∧ t.lane d.lane = some { f with motor := m } ∧
            (c.kind ≠ .homeLane → c.dropSeen = none → c.window = .opened none →
              t.vend =
                { s.vend with
                  context :=
                    some { c with
                           supplyAborted := true, limitCause := none, tStart := none, tCycle := none, runTime := none
                           phase := .afterStop
                           window := .opened (some { elapsed := 0, limit := c.inForce.tDrop }) } }) ∧
            (c.kind = .homeLane ∨ c.dropSeen ≠ none ∨ c.window = .closed →
              t.vend =
                { context := none
                  result :=
                    some
                      { kind := c.kind, code := c.code, chosen := c.chosen, vended := c.dropSeen,
                        outcome := if c.dropSeen = none then .aborted else .vended
                        reason := if c.dropSeen = none then some .supply else none
                        price := c.price, turnsMade := c.turnsMade, availBounces := c.availBounces,
                        driveBounces := c.driveBounces } } ∧
                t.port.isSet .vendDone = true ∧
                (c.kind = .vend → c.dropSeen = none → s.session.cancelPending = false → s.payout.order = none →
                  t.session.coin = s.session.coin + s.session.escrowCoin ∧
                    t.session.cashless = s.session.cashless + s.session.escrowCashless ∧
                    t.session.escrowCoin = 0 ∧ t.session.escrowCashless = 0)))) ∧
    (∀ (k : SupplyKind) (mv : Nat) (u : Supply),
      (k = .under → 20000 < mv ∧ u = { s.supply with underLevel := false }) →
      (k = .over → mv < 29000 ∧ u = { s.supply with overLevel := false }) →
      ((s.supply.underLevel = true ∨ s.supply.overLevel = true) → u.underLevel = false → u.overLevel = false →
        exec (.supplyCleared k mv) s = .next ({ s with supply := u } : State).evaluate) ∧
      (u.underLevel = true ∨ u.overLevel = true ∨ (s.supply.underLevel = false ∧ s.supply.overLevel = false) →
        exec (.supplyCleared k mv) s = .next { s with supply := u }))

/-! ## Power, starts and the stored image (11_retention_start_up_and_the_stored_image.md) -/

/-- R189: a power-fail warning and an RST_N assertion make the part inert: the drive is off with its marker kept, the
order and a held payout are dropped, every commitment is released, a coin in transit is dropped, a store is abandoned,
and the records stand; the warning also samples the cell, and a DEAD sample makes the marker INVALID. While the part
is inert or loading, no request, event or expiry changes anything. What stays frozen is log entry 25; how far an
abandoned store had come is a free value, log entry 16. -/
def Obligations.PowerWarningMakesThePartInert : Prop :=
  (∀ s u : State, ∀ mv : Nat, ∀ c : CellState,
    c = (if 2700 ≤ mv then .good else if 2400 ≤ mv then .weak else .dead) →
    (∀ n, u.tube n = { s.tube n with committed := 0 }) →
    u =
      { s with
        tubes := { s.tubes with tubes := u.tubes.tubes }
        drive := { s.drive with context := none }
        payout := { s.payout with order := none, held := false, solenoids := Vector.replicate 6 none }
        coins := { s.coins with slot := none }
        image := u.image
        supply := { s.supply with power := .inert } } →
    (s.image.copy = none → u.image = s.image) →
    (∀ bytes, s.image.copy = some bytes →
      u.image =
        { s.image with
          copy := none
          memory := Memory.afterWrites bytes (Config.freeStoreProgress s.image.freeDraws) s.image.memory
          freeDraws := s.image.freeDraws + 1 }) →
    exec .rstNAssertion s = .next u ∧
    exec (.powerFailWarning mv) s =
      .next
        { u with
          supply :=
            { s.supply with
              power := .inert, cell := c, markerValid := if c = .dead then false else s.supply.markerValid }
          port :=
            { s.port with
              flags :=
                if c ≠ s.supply.cell ∧ c ≠ .good then s.port.flags ||| Flag.cell.word else s.port.flags } }) ∧
  ∀ (c : Instr) (s : State), s.supply.power ≠ .running →
    c ≠ .linkReset → c ≠ .lrstNRelease → (∀ mv, c ≠ .powerFailWarning mv) → c ≠ .rstNAssertion →
    (∀ f mv i, c ≠ .warmStart f mv i) → (∀ f mv i, c ≠ .coldStart f mv i) → (∀ a i, c ≠ .imageLoad a i) →
    exec c s = .next s

/-- The starts: an inert part whose marker is VALID starts warm, its retained records standing and what was in flight
resolved (R190); a cold start gives every record its cold-start value and then reads the image of a fitted memory,
which a valid image alone is applied from (R191, R193). Four points are the model's choice: a start command has no effect
in any other state of the part (log entry 7), the comparators, contacts, code pins and level sensors are read as the
start completes (log entry 8), how an image value that its request would refuse is applied (log entry 18), and the timer
of a LATCHED hold is 0 (log entry 33). -/
def Obligations.StartsResolveWhatWasInFlight : Prop :=
  ∀ (s : State) (fitted : Bool) (mv : Nat) (i : StartInputs),
    (s.supply.power ≠ .inert ∨ s.supply.markerValid = false → exec (.warmStart fitted mv i) s = .next s) ∧
    (s.supply.power = .inert → s.supply.markerValid = true → ∀ r : State,
      r = { s with
            image := { s.image with fitted := fitted }
            supply :=
              { s.supply with cell := if 2700 ≤ mv then .good else if 2400 ≤ mv then .weak else .dead } } →
      ∃ t : State, exec (.warmStart fitted mv i) s = .next t ∧ r.Started t .warm false i) ∧
    (s.supply.power ≠ .inert → exec (.coldStart fitted mv i) s = .next s) ∧
    (s.supply.power = .inert →
      exec (.coldStart true mv i) s = .next (s.coldRecords true mv) ∧
      ∃ t : State, exec (.coldStart false mv i) s = .next t ∧ (s.coldRecords false mv).Started t .cold false i) ∧
    (s.supply.power ≠ .loading → ∀ a, exec (.imageLoad a i) s = .next s) ∧
    (s.supply.power = .loading →
      (∃ t : State, exec (.imageLoad false i) s = .next t ∧ s.Started t .cold true i) ∧
      (Image.ofBytes (Memory.readBlock imageLength 0 s.image.memory) = none →
        ∃ t : State, exec (.imageLoad true i) s = .next t ∧ s.Started t .cold true i) ∧
      ∀ image, Image.ofBytes (Memory.readBlock imageLength 0 s.image.memory) = some image →
        ∃ t : State, exec (.imageLoad true i) s = .next t ∧ (s.applyImage image).Started t .cold false i)

/-- R194 and R193: STORE_IMAGE copies every item as it stands and erases the marker; the end of the store leaves in
the memory the very image copied, or after a failed byte one that is not valid, and touches no byte past the image; a
failure at the first byte, the marker erased already, writes nothing.
The memory keeps its canonical form at every step, and the image of any state reads back as itself. When the marker is
erased is log entry 16. -/
def Obligations.StoredImageReadsBackAsItself : Prop :=
  (∀ s t : State, s.MemoryLawful → step s = .next t → t.MemoryLawful) ∧
  (∀ s : State, Image.ofBytes s.imageOf.bytes = some s.imageOf) ∧
  (∀ s : State, s.TakesFrames →
    (s.image.fitted = false → exec .storeImage s = .next (s.answered s 1 0x61#8 .noMemory [])) ∧
    (s.image.fitted = true → s.image.copy ≠ none → exec .storeImage s = .next (s.answered s 1 0x61#8 .busy [])) ∧
    (s.image.fitted = true → s.image.copy = none → s.MemoryLawful → ∃ m,
      exec .storeImage s =
        .next
          (({ s with
            image :=
                { s.image with result := .running, copy := some s.imageOf.bytes, memory := m } } : State).answered s 1
            0x61#8 .ok []) ∧
      Memory.read m 0 = 0xFF#8 ∧ ∀ a, 0 < a → Memory.read m a = Memory.read s.image.memory a)) ∧
  ∀ s x : State, s.supply.power = .running →
    (s.image.copy = none → ∀ n, exec (.storeEnd n) s = .next s) ∧
    (s.image.copy = some x.imageOf.bytes → s.MemoryLawful →
      ∃ t : State, exec (.storeEnd none) s = .next t ∧
        t =
          { s with
            image := { s.image with copy := none, result := .ok, memory := t.image.memory }
            port := { s.port with flags := s.port.flags ||| Flag.storeDone.word } } ∧
        Image.ofBytes (Memory.readBlock imageLength 0 t.image.memory) = some x.imageOf ∧
        (∀ a, imageLength ≤ a → Memory.read t.image.memory a = Memory.read s.image.memory a) ∧
        ∀ n, ∃ u : State, exec (.storeEnd (some n)) s = .next u ∧
          u =
            { s with
              image := { s.image with copy := none, result := .writeFail, memory := u.image.memory }
              port := { s.port with flags := s.port.flags ||| Flag.storeDone.word } } ∧
          (0 < n ∨ Memory.read s.image.memory 0 = 0xFF#8 →
            Image.ofBytes (Memory.readBlock imageLength 0 u.image.memory) = none) ∧
          (n = 0 → u.image.memory = s.image.memory) ∧
          ∀ a, imageLength ≤ a → Memory.read u.image.memory a = Memory.read s.image.memory a)

/-- The state after reset is a cold start with no memory fitted (R191), with the inputs of log entry 6: nothing
fitted, configured or held, every setting at its default, the part running and idle; and every law of the part holds
in it. -/
def Obligations.ResetIsALawfulColdStart : Prop :=
  (∀ l, State.reset.lane l = none) ∧ (∀ w : WindowNo, State.reset.lanes.windows[w].enabled = false) ∧
  (∀ y : CoinTypeNo, State.reset.coins.table[y].value = 0) ∧ (∀ n, (State.reset.tube n).value = 0) ∧
  State.reset.session.total = 0 ∧ State.reset.session.state = .idle ∧ State.reset.cooling.hold = .clear ∧
  State.reset.cooling.accumulatedRun = 0 ∧ State.reset.coins.cashbox = 0 ∧ State.reset.drive.marker = none ∧
  State.reset.machine.creditCeiling = 2000 ∧ State.reset.machine.tCycle = 4000 ∧
  State.reset.cooling.settings.setpoint = 30 ∧ State.reset.arbiter.budget = 60 ∧
  State.reset.supply.power = .running ∧ State.reset.supply.markerValid = true ∧
  State.reset.port.flags = 0#17 ∧ State.reset.port.pending = Reply.noReply ∧ State.reset.pending = [] ∧
  State.reset.LanesLawful ∧ State.reset.CommitmentsLawful ∧ State.reset.MoneyLawful ∧ State.reset.DriveLawful ∧
  State.reset.VendLawful ∧ State.reset.arbiter.WithinBudget ∧ State.reset.cooling.Apart ∧ State.reset.MemoryLawful
end

