-- ==== Sys2Proof/Laws/State.lean ====
section
/-! SUPPORT. What each update of the state leaves as it is, field by field, and what the plain ones write: the lemmas that
later proofs cite instead of unfolding an update. -/
namespace Sys2Proof.Machine

/-! ### setFlag -/

@[simp] theorem State.setFlag_lanes (f : Flag) (s : State) : (s.setFlag f).lanes = s.lanes := rfl
@[simp] theorem State.setFlag_drive (f : Flag) (s : State) : (s.setFlag f).drive = s.drive := rfl
@[simp] theorem State.setFlag_tubes (f : Flag) (s : State) : (s.setFlag f).tubes = s.tubes := rfl
@[simp] theorem State.setFlag_coins (f : Flag) (s : State) : (s.setFlag f).coins = s.coins := rfl
@[simp] theorem State.setFlag_payout (f : Flag) (s : State) : (s.setFlag f).payout = s.payout := rfl
@[simp] theorem State.setFlag_session (f : Flag) (s : State) : (s.setFlag f).session = s.session := rfl
@[simp] theorem State.setFlag_machine (f : Flag) (s : State) : (s.setFlag f).machine = s.machine := rfl
@[simp] theorem State.setFlag_vend (f : Flag) (s : State) : (s.setFlag f).vend = s.vend := rfl
@[simp] theorem State.setFlag_cooling (f : Flag) (s : State) : (s.setFlag f).cooling = s.cooling := rfl
@[simp] theorem State.setFlag_arbiter (f : Flag) (s : State) : (s.setFlag f).arbiter = s.arbiter := rfl
@[simp] theorem State.setFlag_supply (f : Flag) (s : State) : (s.setFlag f).supply = s.supply := rfl
@[simp] theorem State.setFlag_image (f : Flag) (s : State) : (s.setFlag f).image = s.image := rfl
@[simp] theorem State.setFlag_pending (f : Flag) (s : State) : (s.setFlag f).pending = s.pending := rfl

/-! ### setFlagIf -/

@[simp] theorem State.setFlagIf_lanes (c : Bool) (f : Flag) (s : State) : (s.setFlagIf c f).lanes = s.lanes := by cases c <;> rfl
@[simp] theorem State.setFlagIf_drive (c : Bool) (f : Flag) (s : State) : (s.setFlagIf c f).drive = s.drive := by cases c <;> rfl
@[simp] theorem State.setFlagIf_tubes (c : Bool) (f : Flag) (s : State) : (s.setFlagIf c f).tubes = s.tubes := by cases c <;> rfl
@[simp] theorem State.setFlagIf_coins (c : Bool) (f : Flag) (s : State) : (s.setFlagIf c f).coins = s.coins := by cases c <;> rfl
@[simp] theorem State.setFlagIf_payout (c : Bool) (f : Flag) (s : State) : (s.setFlagIf c f).payout = s.payout := by cases c <;> rfl
@[simp] theorem State.setFlagIf_session (c : Bool) (f : Flag) (s : State) : (s.setFlagIf c f).session = s.session := by cases c <;> rfl
@[simp] theorem State.setFlagIf_machine (c : Bool) (f : Flag) (s : State) : (s.setFlagIf c f).machine = s.machine := by cases c <;> rfl
@[simp] theorem State.setFlagIf_vend (c : Bool) (f : Flag) (s : State) : (s.setFlagIf c f).vend = s.vend := by cases c <;> rfl
@[simp] theorem State.setFlagIf_cooling (c : Bool) (f : Flag) (s : State) : (s.setFlagIf c f).cooling = s.cooling := by cases c <;> rfl
@[simp] theorem State.setFlagIf_arbiter (c : Bool) (f : Flag) (s : State) : (s.setFlagIf c f).arbiter = s.arbiter := by cases c <;> rfl
@[simp] theorem State.setFlagIf_supply (c : Bool) (f : Flag) (s : State) : (s.setFlagIf c f).supply = s.supply := by cases c <;> rfl
@[simp] theorem State.setFlagIf_image (c : Bool) (f : Flag) (s : State) : (s.setFlagIf c f).image = s.image := by cases c <;> rfl
@[simp] theorem State.setFlagIf_pending (c : Bool) (f : Flag) (s : State) : (s.setFlagIf c f).pending = s.pending := by cases c <;> rfl

/-! ### setLane -/

@[simp] theorem State.setLane_drive (l : LaneNo) (r : LaneRecord) (s : State) : (s.setLane l r).drive = s.drive := rfl
@[simp] theorem State.setLane_tubes (l : LaneNo) (r : LaneRecord) (s : State) : (s.setLane l r).tubes = s.tubes := rfl
@[simp] theorem State.setLane_coins (l : LaneNo) (r : LaneRecord) (s : State) : (s.setLane l r).coins = s.coins := rfl
@[simp] theorem State.setLane_payout (l : LaneNo) (r : LaneRecord) (s : State) : (s.setLane l r).payout = s.payout := rfl
@[simp] theorem State.setLane_session (l : LaneNo) (r : LaneRecord) (s : State) : (s.setLane l r).session = s.session := rfl
@[simp] theorem State.setLane_machine (l : LaneNo) (r : LaneRecord) (s : State) : (s.setLane l r).machine = s.machine := rfl
@[simp] theorem State.setLane_vend (l : LaneNo) (r : LaneRecord) (s : State) : (s.setLane l r).vend = s.vend := rfl
@[simp] theorem State.setLane_cooling (l : LaneNo) (r : LaneRecord) (s : State) : (s.setLane l r).cooling = s.cooling := rfl
@[simp] theorem State.setLane_arbiter (l : LaneNo) (r : LaneRecord) (s : State) : (s.setLane l r).arbiter = s.arbiter := rfl
@[simp] theorem State.setLane_supply (l : LaneNo) (r : LaneRecord) (s : State) : (s.setLane l r).supply = s.supply := rfl
@[simp] theorem State.setLane_image (l : LaneNo) (r : LaneRecord) (s : State) : (s.setLane l r).image = s.image := rfl
@[simp] theorem State.setLane_port (l : LaneNo) (r : LaneRecord) (s : State) : (s.setLane l r).port = s.port := rfl
@[simp] theorem State.setLane_pending (l : LaneNo) (r : LaneRecord) (s : State) : (s.setLane l r).pending = s.pending := rfl

/-! ### updateLane -/

@[simp] theorem State.updateLane_drive (l : LaneNo) (f : FittedLane → FittedLane) (s : State) : (s.updateLane l f).drive = s.drive := rfl
@[simp] theorem State.updateLane_tubes (l : LaneNo) (f : FittedLane → FittedLane) (s : State) : (s.updateLane l f).tubes = s.tubes := rfl
@[simp] theorem State.updateLane_coins (l : LaneNo) (f : FittedLane → FittedLane) (s : State) : (s.updateLane l f).coins = s.coins := rfl
@[simp] theorem State.updateLane_payout (l : LaneNo) (f : FittedLane → FittedLane) (s : State) : (s.updateLane l f).payout = s.payout := rfl
@[simp] theorem State.updateLane_session (l : LaneNo) (f : FittedLane → FittedLane) (s : State) : (s.updateLane l f).session = s.session := rfl
@[simp] theorem State.updateLane_machine (l : LaneNo) (f : FittedLane → FittedLane) (s : State) : (s.updateLane l f).machine = s.machine := rfl
@[simp] theorem State.updateLane_vend (l : LaneNo) (f : FittedLane → FittedLane) (s : State) : (s.updateLane l f).vend = s.vend := rfl
@[simp] theorem State.updateLane_cooling (l : LaneNo) (f : FittedLane → FittedLane) (s : State) : (s.updateLane l f).cooling = s.cooling := rfl
@[simp] theorem State.updateLane_arbiter (l : LaneNo) (f : FittedLane → FittedLane) (s : State) : (s.updateLane l f).arbiter = s.arbiter := rfl
@[simp] theorem State.updateLane_supply (l : LaneNo) (f : FittedLane → FittedLane) (s : State) : (s.updateLane l f).supply = s.supply := rfl
@[simp] theorem State.updateLane_image (l : LaneNo) (f : FittedLane → FittedLane) (s : State) : (s.updateLane l f).image = s.image := rfl
@[simp] theorem State.updateLane_port (l : LaneNo) (f : FittedLane → FittedLane) (s : State) : (s.updateLane l f).port = s.port := rfl
@[simp] theorem State.updateLane_pending (l : LaneNo) (f : FittedLane → FittedLane) (s : State) : (s.updateLane l f).pending = s.pending := rfl

/-! ### dropReport -/

@[simp] theorem State.dropReport_drive (l : LaneNo) (s : State) : (s.dropReport l).drive = s.drive := rfl
@[simp] theorem State.dropReport_tubes (l : LaneNo) (s : State) : (s.dropReport l).tubes = s.tubes := rfl
@[simp] theorem State.dropReport_coins (l : LaneNo) (s : State) : (s.dropReport l).coins = s.coins := rfl
@[simp] theorem State.dropReport_payout (l : LaneNo) (s : State) : (s.dropReport l).payout = s.payout := rfl
@[simp] theorem State.dropReport_session (l : LaneNo) (s : State) : (s.dropReport l).session = s.session := rfl
@[simp] theorem State.dropReport_machine (l : LaneNo) (s : State) : (s.dropReport l).machine = s.machine := rfl
@[simp] theorem State.dropReport_vend (l : LaneNo) (s : State) : (s.dropReport l).vend = s.vend := rfl
@[simp] theorem State.dropReport_cooling (l : LaneNo) (s : State) : (s.dropReport l).cooling = s.cooling := rfl
@[simp] theorem State.dropReport_arbiter (l : LaneNo) (s : State) : (s.dropReport l).arbiter = s.arbiter := rfl
@[simp] theorem State.dropReport_supply (l : LaneNo) (s : State) : (s.dropReport l).supply = s.supply := rfl
@[simp] theorem State.dropReport_image (l : LaneNo) (s : State) : (s.dropReport l).image = s.image := rfl
@[simp] theorem State.dropReport_port (l : LaneNo) (s : State) : (s.dropReport l).port = s.port := rfl
@[simp] theorem State.dropReport_pending (l : LaneNo) (s : State) : (s.dropReport l).pending = s.pending := rfl

/-! ### emptyReport -/

@[simp] theorem State.emptyReport_drive (l : LaneNo) (s : State) : (s.emptyReport l).drive = s.drive := rfl
@[simp] theorem State.emptyReport_tubes (l : LaneNo) (s : State) : (s.emptyReport l).tubes = s.tubes := rfl
@[simp] theorem State.emptyReport_coins (l : LaneNo) (s : State) : (s.emptyReport l).coins = s.coins := rfl
@[simp] theorem State.emptyReport_payout (l : LaneNo) (s : State) : (s.emptyReport l).payout = s.payout := rfl
@[simp] theorem State.emptyReport_session (l : LaneNo) (s : State) : (s.emptyReport l).session = s.session := rfl
@[simp] theorem State.emptyReport_machine (l : LaneNo) (s : State) : (s.emptyReport l).machine = s.machine := rfl
@[simp] theorem State.emptyReport_vend (l : LaneNo) (s : State) : (s.emptyReport l).vend = s.vend := rfl
@[simp] theorem State.emptyReport_cooling (l : LaneNo) (s : State) : (s.emptyReport l).cooling = s.cooling := rfl
@[simp] theorem State.emptyReport_arbiter (l : LaneNo) (s : State) : (s.emptyReport l).arbiter = s.arbiter := rfl
@[simp] theorem State.emptyReport_supply (l : LaneNo) (s : State) : (s.emptyReport l).supply = s.supply := rfl
@[simp] theorem State.emptyReport_image (l : LaneNo) (s : State) : (s.emptyReport l).image = s.image := rfl
@[simp] theorem State.emptyReport_port (l : LaneNo) (s : State) : (s.emptyReport l).port = s.port := rfl
@[simp] theorem State.emptyReport_pending (l : LaneNo) (s : State) : (s.emptyReport l).pending = s.pending := rfl

/-! ### positionReport -/

@[simp] theorem State.positionReport_drive (l : LaneNo) (p : Position) (s : State) : (s.positionReport l p).drive = s.drive := rfl
@[simp] theorem State.positionReport_tubes (l : LaneNo) (p : Position) (s : State) : (s.positionReport l p).tubes = s.tubes := rfl
@[simp] theorem State.positionReport_coins (l : LaneNo) (p : Position) (s : State) : (s.positionReport l p).coins = s.coins := rfl
@[simp] theorem State.positionReport_payout (l : LaneNo) (p : Position) (s : State) : (s.positionReport l p).payout = s.payout := rfl
@[simp] theorem State.positionReport_session (l : LaneNo) (p : Position) (s : State) : (s.positionReport l p).session = s.session := rfl
@[simp] theorem State.positionReport_machine (l : LaneNo) (p : Position) (s : State) : (s.positionReport l p).machine = s.machine := rfl
@[simp] theorem State.positionReport_vend (l : LaneNo) (p : Position) (s : State) : (s.positionReport l p).vend = s.vend := rfl
@[simp] theorem State.positionReport_cooling (l : LaneNo) (p : Position) (s : State) : (s.positionReport l p).cooling = s.cooling := rfl
@[simp] theorem State.positionReport_arbiter (l : LaneNo) (p : Position) (s : State) : (s.positionReport l p).arbiter = s.arbiter := rfl
@[simp] theorem State.positionReport_supply (l : LaneNo) (p : Position) (s : State) : (s.positionReport l p).supply = s.supply := rfl
@[simp] theorem State.positionReport_image (l : LaneNo) (p : Position) (s : State) : (s.positionReport l p).image = s.image := rfl
@[simp] theorem State.positionReport_port (l : LaneNo) (p : Position) (s : State) : (s.positionReport l p).port = s.port := rfl
@[simp] theorem State.positionReport_pending (l : LaneNo) (p : Position) (s : State) : (s.positionReport l p).pending = s.pending := rfl

/-! ### addFaulted -/

@[simp] theorem State.addFaulted_drive (n : Nat) (s : State) : (s.addFaulted n).drive = s.drive := rfl
@[simp] theorem State.addFaulted_tubes (n : Nat) (s : State) : (s.addFaulted n).tubes = s.tubes := rfl
@[simp] theorem State.addFaulted_coins (n : Nat) (s : State) : (s.addFaulted n).coins = s.coins := rfl
@[simp] theorem State.addFaulted_payout (n : Nat) (s : State) : (s.addFaulted n).payout = s.payout := rfl
@[simp] theorem State.addFaulted_session (n : Nat) (s : State) : (s.addFaulted n).session = s.session := rfl
@[simp] theorem State.addFaulted_machine (n : Nat) (s : State) : (s.addFaulted n).machine = s.machine := rfl
@[simp] theorem State.addFaulted_vend (n : Nat) (s : State) : (s.addFaulted n).vend = s.vend := rfl
@[simp] theorem State.addFaulted_cooling (n : Nat) (s : State) : (s.addFaulted n).cooling = s.cooling := rfl
@[simp] theorem State.addFaulted_arbiter (n : Nat) (s : State) : (s.addFaulted n).arbiter = s.arbiter := rfl
@[simp] theorem State.addFaulted_supply (n : Nat) (s : State) : (s.addFaulted n).supply = s.supply := rfl
@[simp] theorem State.addFaulted_image (n : Nat) (s : State) : (s.addFaulted n).image = s.image := rfl
@[simp] theorem State.addFaulted_port (n : Nat) (s : State) : (s.addFaulted n).port = s.port := rfl
@[simp] theorem State.addFaulted_pending (n : Nat) (s : State) : (s.addFaulted n).pending = s.pending := rfl

/-! ### dropFaulted -/

@[simp] theorem State.dropFaulted_drive (c : Bool) (s : State) : (s.dropFaulted c).drive = s.drive := rfl
@[simp] theorem State.dropFaulted_tubes (c : Bool) (s : State) : (s.dropFaulted c).tubes = s.tubes := rfl
@[simp] theorem State.dropFaulted_coins (c : Bool) (s : State) : (s.dropFaulted c).coins = s.coins := rfl
@[simp] theorem State.dropFaulted_payout (c : Bool) (s : State) : (s.dropFaulted c).payout = s.payout := rfl
@[simp] theorem State.dropFaulted_session (c : Bool) (s : State) : (s.dropFaulted c).session = s.session := rfl
@[simp] theorem State.dropFaulted_machine (c : Bool) (s : State) : (s.dropFaulted c).machine = s.machine := rfl
@[simp] theorem State.dropFaulted_vend (c : Bool) (s : State) : (s.dropFaulted c).vend = s.vend := rfl
@[simp] theorem State.dropFaulted_cooling (c : Bool) (s : State) : (s.dropFaulted c).cooling = s.cooling := rfl
@[simp] theorem State.dropFaulted_arbiter (c : Bool) (s : State) : (s.dropFaulted c).arbiter = s.arbiter := rfl
@[simp] theorem State.dropFaulted_supply (c : Bool) (s : State) : (s.dropFaulted c).supply = s.supply := rfl
@[simp] theorem State.dropFaulted_image (c : Bool) (s : State) : (s.dropFaulted c).image = s.image := rfl
@[simp] theorem State.dropFaulted_port (c : Bool) (s : State) : (s.dropFaulted c).port = s.port := rfl
@[simp] theorem State.dropFaulted_pending (c : Bool) (s : State) : (s.dropFaulted c).pending = s.pending := rfl

/-! ### driveFaultReport -/

@[simp] theorem State.driveFaultReport_drive (l : LaneNo) (k : FaultCause) (s : State) : (s.driveFaultReport l k).drive = s.drive := by unfold State.driveFaultReport; split <;> rfl
@[simp] theorem State.driveFaultReport_tubes (l : LaneNo) (k : FaultCause) (s : State) : (s.driveFaultReport l k).tubes = s.tubes := by unfold State.driveFaultReport; split <;> rfl
@[simp] theorem State.driveFaultReport_coins (l : LaneNo) (k : FaultCause) (s : State) : (s.driveFaultReport l k).coins = s.coins := by unfold State.driveFaultReport; split <;> rfl
@[simp] theorem State.driveFaultReport_payout (l : LaneNo) (k : FaultCause) (s : State) : (s.driveFaultReport l k).payout = s.payout := by unfold State.driveFaultReport; split <;> rfl
@[simp] theorem State.driveFaultReport_session (l : LaneNo) (k : FaultCause) (s : State) : (s.driveFaultReport l k).session = s.session := by unfold State.driveFaultReport; split <;> rfl
@[simp] theorem State.driveFaultReport_machine (l : LaneNo) (k : FaultCause) (s : State) : (s.driveFaultReport l k).machine = s.machine := by unfold State.driveFaultReport; split <;> rfl
@[simp] theorem State.driveFaultReport_vend (l : LaneNo) (k : FaultCause) (s : State) : (s.driveFaultReport l k).vend = s.vend := by unfold State.driveFaultReport; split <;> rfl
@[simp] theorem State.driveFaultReport_cooling (l : LaneNo) (k : FaultCause) (s : State) : (s.driveFaultReport l k).cooling = s.cooling := by unfold State.driveFaultReport; split <;> rfl
@[simp] theorem State.driveFaultReport_arbiter (l : LaneNo) (k : FaultCause) (s : State) : (s.driveFaultReport l k).arbiter = s.arbiter := by unfold State.driveFaultReport; split <;> rfl
@[simp] theorem State.driveFaultReport_supply (l : LaneNo) (k : FaultCause) (s : State) : (s.driveFaultReport l k).supply = s.supply := by unfold State.driveFaultReport; split <;> rfl
@[simp] theorem State.driveFaultReport_image (l : LaneNo) (k : FaultCause) (s : State) : (s.driveFaultReport l k).image = s.image := by unfold State.driveFaultReport; split <;> rfl
@[simp] theorem State.driveFaultReport_pending (l : LaneNo) (k : FaultCause) (s : State) : (s.driveFaultReport l k).pending = s.pending := by unfold State.driveFaultReport; split <;> rfl

/-! ### setTube -/

@[simp] theorem State.setTube_lanes (t : TubeNo) (r : Tube) (s : State) : (s.setTube t r).lanes = s.lanes := rfl
@[simp] theorem State.setTube_drive (t : TubeNo) (r : Tube) (s : State) : (s.setTube t r).drive = s.drive := rfl
@[simp] theorem State.setTube_coins (t : TubeNo) (r : Tube) (s : State) : (s.setTube t r).coins = s.coins := rfl
@[simp] theorem State.setTube_payout (t : TubeNo) (r : Tube) (s : State) : (s.setTube t r).payout = s.payout := rfl
@[simp] theorem State.setTube_session (t : TubeNo) (r : Tube) (s : State) : (s.setTube t r).session = s.session := rfl
@[simp] theorem State.setTube_machine (t : TubeNo) (r : Tube) (s : State) : (s.setTube t r).machine = s.machine := rfl
@[simp] theorem State.setTube_vend (t : TubeNo) (r : Tube) (s : State) : (s.setTube t r).vend = s.vend := rfl
@[simp] theorem State.setTube_cooling (t : TubeNo) (r : Tube) (s : State) : (s.setTube t r).cooling = s.cooling := rfl
@[simp] theorem State.setTube_arbiter (t : TubeNo) (r : Tube) (s : State) : (s.setTube t r).arbiter = s.arbiter := rfl
@[simp] theorem State.setTube_supply (t : TubeNo) (r : Tube) (s : State) : (s.setTube t r).supply = s.supply := rfl
@[simp] theorem State.setTube_image (t : TubeNo) (r : Tube) (s : State) : (s.setTube t r).image = s.image := rfl
@[simp] theorem State.setTube_port (t : TubeNo) (r : Tube) (s : State) : (s.setTube t r).port = s.port := rfl
@[simp] theorem State.setTube_pending (t : TubeNo) (r : Tube) (s : State) : (s.setTube t r).pending = s.pending := rfl

/-! ### mapTubes -/

@[simp] theorem State.mapTubes_lanes (f : Tube → Tube) (s : State) : (s.mapTubes f).lanes = s.lanes := rfl
@[simp] theorem State.mapTubes_drive (f : Tube → Tube) (s : State) : (s.mapTubes f).drive = s.drive := rfl
@[simp] theorem State.mapTubes_coins (f : Tube → Tube) (s : State) : (s.mapTubes f).coins = s.coins := rfl
@[simp] theorem State.mapTubes_payout (f : Tube → Tube) (s : State) : (s.mapTubes f).payout = s.payout := rfl
@[simp] theorem State.mapTubes_session (f : Tube → Tube) (s : State) : (s.mapTubes f).session = s.session := rfl
@[simp] theorem State.mapTubes_machine (f : Tube → Tube) (s : State) : (s.mapTubes f).machine = s.machine := rfl
@[simp] theorem State.mapTubes_vend (f : Tube → Tube) (s : State) : (s.mapTubes f).vend = s.vend := rfl
@[simp] theorem State.mapTubes_cooling (f : Tube → Tube) (s : State) : (s.mapTubes f).cooling = s.cooling := rfl
@[simp] theorem State.mapTubes_arbiter (f : Tube → Tube) (s : State) : (s.mapTubes f).arbiter = s.arbiter := rfl
@[simp] theorem State.mapTubes_supply (f : Tube → Tube) (s : State) : (s.mapTubes f).supply = s.supply := rfl
@[simp] theorem State.mapTubes_image (f : Tube → Tube) (s : State) : (s.mapTubes f).image = s.image := rfl
@[simp] theorem State.mapTubes_port (f : Tube → Tube) (s : State) : (s.mapTubes f).port = s.port := rfl
@[simp] theorem State.mapTubes_pending (f : Tube → Tube) (s : State) : (s.mapTubes f).pending = s.pending := rfl

/-! ### evaluateExact -/

@[simp] theorem State.evaluateExact_lanes (s : State) : (s.evaluateExact).lanes = s.lanes := by simp [State.evaluateExact]
@[simp] theorem State.evaluateExact_drive (s : State) : (s.evaluateExact).drive = s.drive := by simp [State.evaluateExact]
@[simp] theorem State.evaluateExact_coins (s : State) : (s.evaluateExact).coins = s.coins := by simp [State.evaluateExact]
@[simp] theorem State.evaluateExact_payout (s : State) : (s.evaluateExact).payout = s.payout := by simp [State.evaluateExact]
@[simp] theorem State.evaluateExact_session (s : State) : (s.evaluateExact).session = s.session := by simp [State.evaluateExact]
@[simp] theorem State.evaluateExact_machine (s : State) : (s.evaluateExact).machine = s.machine := by simp [State.evaluateExact]
@[simp] theorem State.evaluateExact_vend (s : State) : (s.evaluateExact).vend = s.vend := by simp [State.evaluateExact]
@[simp] theorem State.evaluateExact_cooling (s : State) : (s.evaluateExact).cooling = s.cooling := by simp [State.evaluateExact]
@[simp] theorem State.evaluateExact_arbiter (s : State) : (s.evaluateExact).arbiter = s.arbiter := by simp [State.evaluateExact]
@[simp] theorem State.evaluateExact_supply (s : State) : (s.evaluateExact).supply = s.supply := by simp [State.evaluateExact]
@[simp] theorem State.evaluateExact_image (s : State) : (s.evaluateExact).image = s.image := by simp [State.evaluateExact]
@[simp] theorem State.evaluateExact_pending (s : State) : (s.evaluateExact).pending = s.pending := by simp [State.evaluateExact]

/-! ### releaseCommitments -/

@[simp] theorem State.releaseCommitments_lanes (s : State) : (s.releaseCommitments).lanes = s.lanes := by simp [State.releaseCommitments]
@[simp] theorem State.releaseCommitments_drive (s : State) : (s.releaseCommitments).drive = s.drive := by simp [State.releaseCommitments]
@[simp] theorem State.releaseCommitments_coins (s : State) : (s.releaseCommitments).coins = s.coins := by simp [State.releaseCommitments]
@[simp] theorem State.releaseCommitments_payout (s : State) : (s.releaseCommitments).payout = s.payout := by simp [State.releaseCommitments]
@[simp] theorem State.releaseCommitments_session (s : State) : (s.releaseCommitments).session = s.session := by simp [State.releaseCommitments]
@[simp] theorem State.releaseCommitments_machine (s : State) : (s.releaseCommitments).machine = s.machine := by simp [State.releaseCommitments]
@[simp] theorem State.releaseCommitments_vend (s : State) : (s.releaseCommitments).vend = s.vend := by simp [State.releaseCommitments]
@[simp] theorem State.releaseCommitments_cooling (s : State) : (s.releaseCommitments).cooling = s.cooling := by simp [State.releaseCommitments]
@[simp] theorem State.releaseCommitments_arbiter (s : State) : (s.releaseCommitments).arbiter = s.arbiter := by simp [State.releaseCommitments]
@[simp] theorem State.releaseCommitments_supply (s : State) : (s.releaseCommitments).supply = s.supply := by simp [State.releaseCommitments]
@[simp] theorem State.releaseCommitments_image (s : State) : (s.releaseCommitments).image = s.image := by simp [State.releaseCommitments]
@[simp] theorem State.releaseCommitments_pending (s : State) : (s.releaseCommitments).pending = s.pending := by simp [State.releaseCommitments]

/-! ### commitPlan -/

@[simp] theorem State.commitPlan_lanes (p : Vector Nat 6) (s : State) : (s.commitPlan p).lanes = s.lanes := by simp [State.commitPlan]
@[simp] theorem State.commitPlan_drive (p : Vector Nat 6) (s : State) : (s.commitPlan p).drive = s.drive := by simp [State.commitPlan]
@[simp] theorem State.commitPlan_coins (p : Vector Nat 6) (s : State) : (s.commitPlan p).coins = s.coins := by simp [State.commitPlan]
@[simp] theorem State.commitPlan_payout (p : Vector Nat 6) (s : State) : (s.commitPlan p).payout = s.payout := by simp [State.commitPlan]
@[simp] theorem State.commitPlan_session (p : Vector Nat 6) (s : State) : (s.commitPlan p).session = s.session := by simp [State.commitPlan]
@[simp] theorem State.commitPlan_machine (p : Vector Nat 6) (s : State) : (s.commitPlan p).machine = s.machine := by simp [State.commitPlan]
@[simp] theorem State.commitPlan_vend (p : Vector Nat 6) (s : State) : (s.commitPlan p).vend = s.vend := by simp [State.commitPlan]
@[simp] theorem State.commitPlan_cooling (p : Vector Nat 6) (s : State) : (s.commitPlan p).cooling = s.cooling := by simp [State.commitPlan]
@[simp] theorem State.commitPlan_arbiter (p : Vector Nat 6) (s : State) : (s.commitPlan p).arbiter = s.arbiter := by simp [State.commitPlan]
@[simp] theorem State.commitPlan_supply (p : Vector Nat 6) (s : State) : (s.commitPlan p).supply = s.supply := by simp [State.commitPlan]
@[simp] theorem State.commitPlan_image (p : Vector Nat 6) (s : State) : (s.commitPlan p).image = s.image := by simp [State.commitPlan]
@[simp] theorem State.commitPlan_pending (p : Vector Nat 6) (s : State) : (s.commitPlan p).pending = s.pending := by simp [State.commitPlan]

/-! ### timerReplacing -/

@[simp] theorem State.timerReplacing_lanes (o : Option Timer) (s : State) : (s.timerReplacing o).lanes = s.lanes := rfl
@[simp] theorem State.timerReplacing_drive (o : Option Timer) (s : State) : (s.timerReplacing o).drive = s.drive := rfl
@[simp] theorem State.timerReplacing_tubes (o : Option Timer) (s : State) : (s.timerReplacing o).tubes = s.tubes := rfl
@[simp] theorem State.timerReplacing_coins (o : Option Timer) (s : State) : (s.timerReplacing o).coins = s.coins := rfl
@[simp] theorem State.timerReplacing_payout (o : Option Timer) (s : State) : (s.timerReplacing o).payout = s.payout := rfl
@[simp] theorem State.timerReplacing_machine (o : Option Timer) (s : State) : (s.timerReplacing o).machine = s.machine := rfl
@[simp] theorem State.timerReplacing_vend (o : Option Timer) (s : State) : (s.timerReplacing o).vend = s.vend := rfl
@[simp] theorem State.timerReplacing_cooling (o : Option Timer) (s : State) : (s.timerReplacing o).cooling = s.cooling := rfl
@[simp] theorem State.timerReplacing_arbiter (o : Option Timer) (s : State) : (s.timerReplacing o).arbiter = s.arbiter := rfl
@[simp] theorem State.timerReplacing_supply (o : Option Timer) (s : State) : (s.timerReplacing o).supply = s.supply := rfl
@[simp] theorem State.timerReplacing_image (o : Option Timer) (s : State) : (s.timerReplacing o).image = s.image := rfl
@[simp] theorem State.timerReplacing_port (o : Option Timer) (s : State) : (s.timerReplacing o).port = s.port := rfl
@[simp] theorem State.timerReplacing_pending (o : Option Timer) (s : State) : (s.timerReplacing o).pending = s.pending := rfl

/-! ### activity -/

@[simp] theorem State.activity_lanes (s : State) : (s.activity).lanes = s.lanes := by unfold State.activity; split <;> rfl
@[simp] theorem State.activity_drive (s : State) : (s.activity).drive = s.drive := by unfold State.activity; split <;> rfl
@[simp] theorem State.activity_tubes (s : State) : (s.activity).tubes = s.tubes := by unfold State.activity; split <;> rfl
@[simp] theorem State.activity_coins (s : State) : (s.activity).coins = s.coins := by unfold State.activity; split <;> rfl
@[simp] theorem State.activity_payout (s : State) : (s.activity).payout = s.payout := by unfold State.activity; split <;> rfl
@[simp] theorem State.activity_machine (s : State) : (s.activity).machine = s.machine := by unfold State.activity; split <;> rfl
@[simp] theorem State.activity_vend (s : State) : (s.activity).vend = s.vend := by unfold State.activity; split <;> rfl
@[simp] theorem State.activity_cooling (s : State) : (s.activity).cooling = s.cooling := by unfold State.activity; split <;> rfl
@[simp] theorem State.activity_arbiter (s : State) : (s.activity).arbiter = s.arbiter := by unfold State.activity; split <;> rfl
@[simp] theorem State.activity_supply (s : State) : (s.activity).supply = s.supply := by unfold State.activity; split <;> rfl
@[simp] theorem State.activity_image (s : State) : (s.activity).image = s.image := by unfold State.activity; split <;> rfl
@[simp] theorem State.activity_port (s : State) : (s.activity).port = s.port := by unfold State.activity; split <;> rfl
@[simp] theorem State.activity_pending (s : State) : (s.activity).pending = s.pending := by unfold State.activity; split <;> rfl

/-! ### openSession -/

@[simp] theorem State.openSession_lanes (s : State) : (s.openSession).lanes = s.lanes := rfl
@[simp] theorem State.openSession_drive (s : State) : (s.openSession).drive = s.drive := rfl
@[simp] theorem State.openSession_tubes (s : State) : (s.openSession).tubes = s.tubes := rfl
@[simp] theorem State.openSession_coins (s : State) : (s.openSession).coins = s.coins := rfl
@[simp] theorem State.openSession_payout (s : State) : (s.openSession).payout = s.payout := rfl
@[simp] theorem State.openSession_machine (s : State) : (s.openSession).machine = s.machine := rfl
@[simp] theorem State.openSession_vend (s : State) : (s.openSession).vend = s.vend := rfl
@[simp] theorem State.openSession_cooling (s : State) : (s.openSession).cooling = s.cooling := rfl
@[simp] theorem State.openSession_arbiter (s : State) : (s.openSession).arbiter = s.arbiter := rfl
@[simp] theorem State.openSession_supply (s : State) : (s.openSession).supply = s.supply := rfl
@[simp] theorem State.openSession_image (s : State) : (s.openSession).image = s.image := rfl
@[simp] theorem State.openSession_port (s : State) : (s.openSession).port = s.port := rfl
@[simp] theorem State.openSession_pending (s : State) : (s.openSession).pending = s.pending := rfl

/-! ### idleSession -/

@[simp] theorem State.idleSession_lanes (s : State) : (s.idleSession).lanes = s.lanes := rfl
@[simp] theorem State.idleSession_drive (s : State) : (s.idleSession).drive = s.drive := rfl
@[simp] theorem State.idleSession_tubes (s : State) : (s.idleSession).tubes = s.tubes := rfl
@[simp] theorem State.idleSession_coins (s : State) : (s.idleSession).coins = s.coins := rfl
@[simp] theorem State.idleSession_payout (s : State) : (s.idleSession).payout = s.payout := rfl
@[simp] theorem State.idleSession_machine (s : State) : (s.idleSession).machine = s.machine := rfl
@[simp] theorem State.idleSession_vend (s : State) : (s.idleSession).vend = s.vend := rfl
@[simp] theorem State.idleSession_cooling (s : State) : (s.idleSession).cooling = s.cooling := rfl
@[simp] theorem State.idleSession_arbiter (s : State) : (s.idleSession).arbiter = s.arbiter := rfl
@[simp] theorem State.idleSession_supply (s : State) : (s.idleSession).supply = s.supply := rfl
@[simp] theorem State.idleSession_image (s : State) : (s.idleSession).image = s.image := rfl
@[simp] theorem State.idleSession_port (s : State) : (s.idleSession).port = s.port := rfl
@[simp] theorem State.idleSession_pending (s : State) : (s.idleSession).pending = s.pending := rfl

/-! ### openOrIdle -/

@[simp] theorem State.openOrIdle_lanes (s : State) : (s.openOrIdle).lanes = s.lanes := by unfold State.openOrIdle; split <;> rfl
@[simp] theorem State.openOrIdle_drive (s : State) : (s.openOrIdle).drive = s.drive := by unfold State.openOrIdle; split <;> rfl
@[simp] theorem State.openOrIdle_tubes (s : State) : (s.openOrIdle).tubes = s.tubes := by unfold State.openOrIdle; split <;> rfl
@[simp] theorem State.openOrIdle_coins (s : State) : (s.openOrIdle).coins = s.coins := by unfold State.openOrIdle; split <;> rfl
@[simp] theorem State.openOrIdle_payout (s : State) : (s.openOrIdle).payout = s.payout := by unfold State.openOrIdle; split <;> rfl
@[simp] theorem State.openOrIdle_machine (s : State) : (s.openOrIdle).machine = s.machine := by unfold State.openOrIdle; split <;> rfl
@[simp] theorem State.openOrIdle_vend (s : State) : (s.openOrIdle).vend = s.vend := by unfold State.openOrIdle; split <;> rfl
@[simp] theorem State.openOrIdle_cooling (s : State) : (s.openOrIdle).cooling = s.cooling := by unfold State.openOrIdle; split <;> rfl
@[simp] theorem State.openOrIdle_arbiter (s : State) : (s.openOrIdle).arbiter = s.arbiter := by unfold State.openOrIdle; split <;> rfl
@[simp] theorem State.openOrIdle_supply (s : State) : (s.openOrIdle).supply = s.supply := by unfold State.openOrIdle; split <;> rfl
@[simp] theorem State.openOrIdle_image (s : State) : (s.openOrIdle).image = s.image := by unfold State.openOrIdle; split <;> rfl
@[simp] theorem State.openOrIdle_port (s : State) : (s.openOrIdle).port = s.port := by unfold State.openOrIdle; split <;> rfl
@[simp] theorem State.openOrIdle_pending (s : State) : (s.openOrIdle).pending = s.pending := by unfold State.openOrIdle; split <;> rfl

/-! ### clearSessionRecord -/

@[simp] theorem State.clearSessionRecord_lanes (s : State) : (s.clearSessionRecord).lanes = s.lanes := rfl
@[simp] theorem State.clearSessionRecord_drive (s : State) : (s.clearSessionRecord).drive = s.drive := rfl
@[simp] theorem State.clearSessionRecord_tubes (s : State) : (s.clearSessionRecord).tubes = s.tubes := rfl
@[simp] theorem State.clearSessionRecord_coins (s : State) : (s.clearSessionRecord).coins = s.coins := rfl
@[simp] theorem State.clearSessionRecord_payout (s : State) : (s.clearSessionRecord).payout = s.payout := rfl
@[simp] theorem State.clearSessionRecord_machine (s : State) : (s.clearSessionRecord).machine = s.machine := rfl
@[simp] theorem State.clearSessionRecord_vend (s : State) : (s.clearSessionRecord).vend = s.vend := rfl
@[simp] theorem State.clearSessionRecord_cooling (s : State) : (s.clearSessionRecord).cooling = s.cooling := rfl
@[simp] theorem State.clearSessionRecord_arbiter (s : State) : (s.clearSessionRecord).arbiter = s.arbiter := rfl
@[simp] theorem State.clearSessionRecord_supply (s : State) : (s.clearSessionRecord).supply = s.supply := rfl
@[simp] theorem State.clearSessionRecord_image (s : State) : (s.clearSessionRecord).image = s.image := rfl
@[simp] theorem State.clearSessionRecord_port (s : State) : (s.clearSessionRecord).port = s.port := rfl
@[simp] theorem State.clearSessionRecord_pending (s : State) : (s.clearSessionRecord).pending = s.pending := rfl

/-! ### settle -/

@[simp] theorem State.settle_lanes (s : State) : (s.settle).lanes = s.lanes := by unfold State.settle; split <;> rfl
@[simp] theorem State.settle_drive (s : State) : (s.settle).drive = s.drive := by unfold State.settle; split <;> rfl
@[simp] theorem State.settle_tubes (s : State) : (s.settle).tubes = s.tubes := by unfold State.settle; split <;> rfl
@[simp] theorem State.settle_coins (s : State) : (s.settle).coins = s.coins := by unfold State.settle; split <;> rfl
@[simp] theorem State.settle_payout (s : State) : (s.settle).payout = s.payout := by unfold State.settle; split <;> rfl
@[simp] theorem State.settle_machine (s : State) : (s.settle).machine = s.machine := by unfold State.settle; split <;> rfl
@[simp] theorem State.settle_vend (s : State) : (s.settle).vend = s.vend := by unfold State.settle; split <;> rfl
@[simp] theorem State.settle_cooling (s : State) : (s.settle).cooling = s.cooling := by unfold State.settle; split <;> rfl
@[simp] theorem State.settle_arbiter (s : State) : (s.settle).arbiter = s.arbiter := by unfold State.settle; split <;> rfl
@[simp] theorem State.settle_supply (s : State) : (s.settle).supply = s.supply := by unfold State.settle; split <;> rfl
@[simp] theorem State.settle_image (s : State) : (s.settle).image = s.image := by unfold State.settle; split <;> rfl
@[simp] theorem State.settle_pending (s : State) : (s.settle).pending = s.pending := by unfold State.settle; split <;> rfl

/-! ### takeEscrow -/

@[simp] theorem State.takeEscrow_lanes (n : Nat) (s : State) : (s.takeEscrow n).lanes = s.lanes := rfl
@[simp] theorem State.takeEscrow_drive (n : Nat) (s : State) : (s.takeEscrow n).drive = s.drive := rfl
@[simp] theorem State.takeEscrow_tubes (n : Nat) (s : State) : (s.takeEscrow n).tubes = s.tubes := rfl
@[simp] theorem State.takeEscrow_coins (n : Nat) (s : State) : (s.takeEscrow n).coins = s.coins := rfl
@[simp] theorem State.takeEscrow_payout (n : Nat) (s : State) : (s.takeEscrow n).payout = s.payout := rfl
@[simp] theorem State.takeEscrow_machine (n : Nat) (s : State) : (s.takeEscrow n).machine = s.machine := rfl
@[simp] theorem State.takeEscrow_vend (n : Nat) (s : State) : (s.takeEscrow n).vend = s.vend := rfl
@[simp] theorem State.takeEscrow_cooling (n : Nat) (s : State) : (s.takeEscrow n).cooling = s.cooling := rfl
@[simp] theorem State.takeEscrow_arbiter (n : Nat) (s : State) : (s.takeEscrow n).arbiter = s.arbiter := rfl
@[simp] theorem State.takeEscrow_supply (n : Nat) (s : State) : (s.takeEscrow n).supply = s.supply := rfl
@[simp] theorem State.takeEscrow_image (n : Nat) (s : State) : (s.takeEscrow n).image = s.image := rfl
@[simp] theorem State.takeEscrow_port (n : Nat) (s : State) : (s.takeEscrow n).port = s.port := rfl
@[simp] theorem State.takeEscrow_pending (n : Nat) (s : State) : (s.takeEscrow n).pending = s.pending := rfl

/-! ### sellEscrow -/

@[simp] theorem State.sellEscrow_lanes (s : State) : (s.sellEscrow).lanes = s.lanes := rfl
@[simp] theorem State.sellEscrow_drive (s : State) : (s.sellEscrow).drive = s.drive := rfl
@[simp] theorem State.sellEscrow_tubes (s : State) : (s.sellEscrow).tubes = s.tubes := rfl
@[simp] theorem State.sellEscrow_coins (s : State) : (s.sellEscrow).coins = s.coins := rfl
@[simp] theorem State.sellEscrow_payout (s : State) : (s.sellEscrow).payout = s.payout := rfl
@[simp] theorem State.sellEscrow_machine (s : State) : (s.sellEscrow).machine = s.machine := rfl
@[simp] theorem State.sellEscrow_vend (s : State) : (s.sellEscrow).vend = s.vend := rfl
@[simp] theorem State.sellEscrow_cooling (s : State) : (s.sellEscrow).cooling = s.cooling := rfl
@[simp] theorem State.sellEscrow_arbiter (s : State) : (s.sellEscrow).arbiter = s.arbiter := rfl
@[simp] theorem State.sellEscrow_supply (s : State) : (s.sellEscrow).supply = s.supply := rfl
@[simp] theorem State.sellEscrow_image (s : State) : (s.sellEscrow).image = s.image := rfl
@[simp] theorem State.sellEscrow_port (s : State) : (s.sellEscrow).port = s.port := rfl
@[simp] theorem State.sellEscrow_pending (s : State) : (s.sellEscrow).pending = s.pending := rfl

/-! ### returnEscrow -/

@[simp] theorem State.returnEscrow_lanes (s : State) : (s.returnEscrow).lanes = s.lanes := rfl
@[simp] theorem State.returnEscrow_drive (s : State) : (s.returnEscrow).drive = s.drive := rfl
@[simp] theorem State.returnEscrow_tubes (s : State) : (s.returnEscrow).tubes = s.tubes := rfl
@[simp] theorem State.returnEscrow_coins (s : State) : (s.returnEscrow).coins = s.coins := rfl
@[simp] theorem State.returnEscrow_payout (s : State) : (s.returnEscrow).payout = s.payout := rfl
@[simp] theorem State.returnEscrow_machine (s : State) : (s.returnEscrow).machine = s.machine := rfl
@[simp] theorem State.returnEscrow_vend (s : State) : (s.returnEscrow).vend = s.vend := rfl
@[simp] theorem State.returnEscrow_cooling (s : State) : (s.returnEscrow).cooling = s.cooling := rfl
@[simp] theorem State.returnEscrow_arbiter (s : State) : (s.returnEscrow).arbiter = s.arbiter := rfl
@[simp] theorem State.returnEscrow_supply (s : State) : (s.returnEscrow).supply = s.supply := rfl
@[simp] theorem State.returnEscrow_image (s : State) : (s.returnEscrow).image = s.image := rfl
@[simp] theorem State.returnEscrow_port (s : State) : (s.returnEscrow).port = s.port := rfl
@[simp] theorem State.returnEscrow_pending (s : State) : (s.returnEscrow).pending = s.pending := rfl

/-! ### payCoinCredit -/

@[simp] theorem State.payCoinCredit_lanes (n : Nat) (s : State) : (s.payCoinCredit n).lanes = s.lanes := rfl
@[simp] theorem State.payCoinCredit_drive (n : Nat) (s : State) : (s.payCoinCredit n).drive = s.drive := rfl
@[simp] theorem State.payCoinCredit_tubes (n : Nat) (s : State) : (s.payCoinCredit n).tubes = s.tubes := rfl
@[simp] theorem State.payCoinCredit_coins (n : Nat) (s : State) : (s.payCoinCredit n).coins = s.coins := rfl
@[simp] theorem State.payCoinCredit_payout (n : Nat) (s : State) : (s.payCoinCredit n).payout = s.payout := rfl
@[simp] theorem State.payCoinCredit_machine (n : Nat) (s : State) : (s.payCoinCredit n).machine = s.machine := rfl
@[simp] theorem State.payCoinCredit_vend (n : Nat) (s : State) : (s.payCoinCredit n).vend = s.vend := rfl
@[simp] theorem State.payCoinCredit_cooling (n : Nat) (s : State) : (s.payCoinCredit n).cooling = s.cooling := rfl
@[simp] theorem State.payCoinCredit_arbiter (n : Nat) (s : State) : (s.payCoinCredit n).arbiter = s.arbiter := rfl
@[simp] theorem State.payCoinCredit_supply (n : Nat) (s : State) : (s.payCoinCredit n).supply = s.supply := rfl
@[simp] theorem State.payCoinCredit_image (n : Nat) (s : State) : (s.payCoinCredit n).image = s.image := rfl
@[simp] theorem State.payCoinCredit_port (n : Nat) (s : State) : (s.payCoinCredit n).port = s.port := rfl
@[simp] theorem State.payCoinCredit_pending (n : Nat) (s : State) : (s.payCoinCredit n).pending = s.pending := rfl

/-! ### sessionPayoutEnd -/

@[simp] theorem State.sessionPayoutEnd_lanes (s : State) : (s.sessionPayoutEnd).lanes = s.lanes := by unfold State.sessionPayoutEnd; split <;> rfl
@[simp] theorem State.sessionPayoutEnd_drive (s : State) : (s.sessionPayoutEnd).drive = s.drive := by unfold State.sessionPayoutEnd; split <;> rfl
@[simp] theorem State.sessionPayoutEnd_tubes (s : State) : (s.sessionPayoutEnd).tubes = s.tubes := by unfold State.sessionPayoutEnd; split <;> rfl
@[simp] theorem State.sessionPayoutEnd_coins (s : State) : (s.sessionPayoutEnd).coins = s.coins := by unfold State.sessionPayoutEnd; split <;> rfl
@[simp] theorem State.sessionPayoutEnd_payout (s : State) : (s.sessionPayoutEnd).payout = s.payout := by unfold State.sessionPayoutEnd; split <;> rfl
@[simp] theorem State.sessionPayoutEnd_machine (s : State) : (s.sessionPayoutEnd).machine = s.machine := by unfold State.sessionPayoutEnd; split <;> rfl
@[simp] theorem State.sessionPayoutEnd_vend (s : State) : (s.sessionPayoutEnd).vend = s.vend := by unfold State.sessionPayoutEnd; split <;> rfl
@[simp] theorem State.sessionPayoutEnd_cooling (s : State) : (s.sessionPayoutEnd).cooling = s.cooling := by unfold State.sessionPayoutEnd; split <;> rfl
@[simp] theorem State.sessionPayoutEnd_arbiter (s : State) : (s.sessionPayoutEnd).arbiter = s.arbiter := by unfold State.sessionPayoutEnd; split <;> rfl
@[simp] theorem State.sessionPayoutEnd_supply (s : State) : (s.sessionPayoutEnd).supply = s.supply := by unfold State.sessionPayoutEnd; split <;> rfl
@[simp] theorem State.sessionPayoutEnd_image (s : State) : (s.sessionPayoutEnd).image = s.image := by unfold State.sessionPayoutEnd; split <;> rfl
@[simp] theorem State.sessionPayoutEnd_port (s : State) : (s.sessionPayoutEnd).port = s.port := by unfold State.sessionPayoutEnd; split <;> rfl
@[simp] theorem State.sessionPayoutEnd_pending (s : State) : (s.sessionPayoutEnd).pending = s.pending := by unfold State.sessionPayoutEnd; split <;> rfl

/-! ### creditCoin -/

@[simp] theorem State.creditCoin_lanes (n : Nat) (s : State) : (s.creditCoin n).lanes = s.lanes := by unfold State.creditCoin; split <;> simp
@[simp] theorem State.creditCoin_drive (n : Nat) (s : State) : (s.creditCoin n).drive = s.drive := by unfold State.creditCoin; split <;> simp
@[simp] theorem State.creditCoin_tubes (n : Nat) (s : State) : (s.creditCoin n).tubes = s.tubes := by unfold State.creditCoin; split <;> simp
@[simp] theorem State.creditCoin_coins (n : Nat) (s : State) : (s.creditCoin n).coins = s.coins := by unfold State.creditCoin; split <;> simp
@[simp] theorem State.creditCoin_payout (n : Nat) (s : State) : (s.creditCoin n).payout = s.payout := by unfold State.creditCoin; split <;> simp
@[simp] theorem State.creditCoin_machine (n : Nat) (s : State) : (s.creditCoin n).machine = s.machine := by unfold State.creditCoin; split <;> simp
@[simp] theorem State.creditCoin_vend (n : Nat) (s : State) : (s.creditCoin n).vend = s.vend := by unfold State.creditCoin; split <;> simp
@[simp] theorem State.creditCoin_cooling (n : Nat) (s : State) : (s.creditCoin n).cooling = s.cooling := by unfold State.creditCoin; split <;> simp
@[simp] theorem State.creditCoin_arbiter (n : Nat) (s : State) : (s.creditCoin n).arbiter = s.arbiter := by unfold State.creditCoin; split <;> simp
@[simp] theorem State.creditCoin_supply (n : Nat) (s : State) : (s.creditCoin n).supply = s.supply := by unfold State.creditCoin; split <;> simp
@[simp] theorem State.creditCoin_image (n : Nat) (s : State) : (s.creditCoin n).image = s.image := by unfold State.creditCoin; split <;> simp
@[simp] theorem State.creditCoin_port (n : Nat) (s : State) : (s.creditCoin n).port = s.port := by unfold State.creditCoin; split <;> simp
@[simp] theorem State.creditCoin_pending (n : Nat) (s : State) : (s.creditCoin n).pending = s.pending := by unfold State.creditCoin; split <;> simp

/-! ### clearCancel -/

@[simp] theorem State.clearCancel_lanes (s : State) : (s.clearCancel).lanes = s.lanes := rfl
@[simp] theorem State.clearCancel_drive (s : State) : (s.clearCancel).drive = s.drive := rfl
@[simp] theorem State.clearCancel_tubes (s : State) : (s.clearCancel).tubes = s.tubes := rfl
@[simp] theorem State.clearCancel_coins (s : State) : (s.clearCancel).coins = s.coins := rfl
@[simp] theorem State.clearCancel_payout (s : State) : (s.clearCancel).payout = s.payout := rfl
@[simp] theorem State.clearCancel_machine (s : State) : (s.clearCancel).machine = s.machine := rfl
@[simp] theorem State.clearCancel_vend (s : State) : (s.clearCancel).vend = s.vend := rfl
@[simp] theorem State.clearCancel_cooling (s : State) : (s.clearCancel).cooling = s.cooling := rfl
@[simp] theorem State.clearCancel_arbiter (s : State) : (s.clearCancel).arbiter = s.arbiter := rfl
@[simp] theorem State.clearCancel_supply (s : State) : (s.clearCancel).supply = s.supply := rfl
@[simp] theorem State.clearCancel_image (s : State) : (s.clearCancel).image = s.image := rfl
@[simp] theorem State.clearCancel_port (s : State) : (s.clearCancel).port = s.port := rfl
@[simp] theorem State.clearCancel_pending (s : State) : (s.clearCancel).pending = s.pending := rfl

/-! ### sessionTimeout -/

@[simp] theorem State.sessionTimeout_lanes (s : State) : (s.sessionTimeout).lanes = s.lanes := by unfold State.sessionTimeout; dsimp only; split <;> split <;> simp
@[simp] theorem State.sessionTimeout_drive (s : State) : (s.sessionTimeout).drive = s.drive := by unfold State.sessionTimeout; dsimp only; split <;> split <;> simp
@[simp] theorem State.sessionTimeout_tubes (s : State) : (s.sessionTimeout).tubes = s.tubes := by unfold State.sessionTimeout; dsimp only; split <;> split <;> simp
@[simp] theorem State.sessionTimeout_coins (s : State) : (s.sessionTimeout).coins = s.coins := by unfold State.sessionTimeout; dsimp only; split <;> split <;> simp
@[simp] theorem State.sessionTimeout_payout (s : State) : (s.sessionTimeout).payout = s.payout := by unfold State.sessionTimeout; dsimp only; split <;> split <;> simp
@[simp] theorem State.sessionTimeout_machine (s : State) : (s.sessionTimeout).machine = s.machine := by unfold State.sessionTimeout; dsimp only; split <;> split <;> simp
@[simp] theorem State.sessionTimeout_vend (s : State) : (s.sessionTimeout).vend = s.vend := by unfold State.sessionTimeout; dsimp only; split <;> split <;> simp
@[simp] theorem State.sessionTimeout_cooling (s : State) : (s.sessionTimeout).cooling = s.cooling := by unfold State.sessionTimeout; dsimp only; split <;> split <;> simp
@[simp] theorem State.sessionTimeout_arbiter (s : State) : (s.sessionTimeout).arbiter = s.arbiter := by unfold State.sessionTimeout; dsimp only; split <;> split <;> simp
@[simp] theorem State.sessionTimeout_supply (s : State) : (s.sessionTimeout).supply = s.supply := by unfold State.sessionTimeout; dsimp only; split <;> split <;> simp
@[simp] theorem State.sessionTimeout_image (s : State) : (s.sessionTimeout).image = s.image := by unfold State.sessionTimeout; dsimp only; split <;> split <;> simp
@[simp] theorem State.sessionTimeout_pending (s : State) : (s.sessionTimeout).pending = s.pending := by unfold State.sessionTimeout; dsimp only; split <;> split <;> simp

/-! ### setEntry -/

@[simp] theorem State.setEntry_lanes (c : Consumer) (e : Entry) (s : State) : (s.setEntry c e).lanes = s.lanes := rfl
@[simp] theorem State.setEntry_drive (c : Consumer) (e : Entry) (s : State) : (s.setEntry c e).drive = s.drive := rfl
@[simp] theorem State.setEntry_tubes (c : Consumer) (e : Entry) (s : State) : (s.setEntry c e).tubes = s.tubes := rfl
@[simp] theorem State.setEntry_coins (c : Consumer) (e : Entry) (s : State) : (s.setEntry c e).coins = s.coins := rfl
@[simp] theorem State.setEntry_payout (c : Consumer) (e : Entry) (s : State) : (s.setEntry c e).payout = s.payout := rfl
@[simp] theorem State.setEntry_session (c : Consumer) (e : Entry) (s : State) : (s.setEntry c e).session = s.session := rfl
@[simp] theorem State.setEntry_machine (c : Consumer) (e : Entry) (s : State) : (s.setEntry c e).machine = s.machine := rfl
@[simp] theorem State.setEntry_vend (c : Consumer) (e : Entry) (s : State) : (s.setEntry c e).vend = s.vend := rfl
@[simp] theorem State.setEntry_cooling (c : Consumer) (e : Entry) (s : State) : (s.setEntry c e).cooling = s.cooling := rfl
@[simp] theorem State.setEntry_supply (c : Consumer) (e : Entry) (s : State) : (s.setEntry c e).supply = s.supply := rfl
@[simp] theorem State.setEntry_image (c : Consumer) (e : Entry) (s : State) : (s.setEntry c e).image = s.image := rfl
@[simp] theorem State.setEntry_port (c : Consumer) (e : Entry) (s : State) : (s.setEntry c e).port = s.port := rfl
@[simp] theorem State.setEntry_pending (c : Consumer) (e : Entry) (s : State) : (s.setEntry c e).pending = s.pending := rfl

/-! ### checkPending -/

@[simp] theorem State.checkPending_lanes (s : State) : (s.checkPending).lanes = s.lanes := rfl
@[simp] theorem State.checkPending_drive (s : State) : (s.checkPending).drive = s.drive := rfl
@[simp] theorem State.checkPending_tubes (s : State) : (s.checkPending).tubes = s.tubes := rfl
@[simp] theorem State.checkPending_coins (s : State) : (s.checkPending).coins = s.coins := rfl
@[simp] theorem State.checkPending_payout (s : State) : (s.checkPending).payout = s.payout := rfl
@[simp] theorem State.checkPending_session (s : State) : (s.checkPending).session = s.session := rfl
@[simp] theorem State.checkPending_machine (s : State) : (s.checkPending).machine = s.machine := rfl
@[simp] theorem State.checkPending_vend (s : State) : (s.checkPending).vend = s.vend := rfl
@[simp] theorem State.checkPending_cooling (s : State) : (s.checkPending).cooling = s.cooling := rfl
@[simp] theorem State.checkPending_supply (s : State) : (s.checkPending).supply = s.supply := rfl
@[simp] theorem State.checkPending_image (s : State) : (s.checkPending).image = s.image := rfl
@[simp] theorem State.checkPending_port (s : State) : (s.checkPending).port = s.port := rfl
@[simp] theorem State.checkPending_pending (s : State) : (s.checkPending).pending = s.pending := rfl

/-! ### revokeAll -/

@[simp] theorem State.revokeAll_lanes (s : State) : (s.revokeAll).lanes = s.lanes := rfl
@[simp] theorem State.revokeAll_drive (s : State) : (s.revokeAll).drive = s.drive := rfl
@[simp] theorem State.revokeAll_tubes (s : State) : (s.revokeAll).tubes = s.tubes := rfl
@[simp] theorem State.revokeAll_coins (s : State) : (s.revokeAll).coins = s.coins := rfl
@[simp] theorem State.revokeAll_payout (s : State) : (s.revokeAll).payout = s.payout := rfl
@[simp] theorem State.revokeAll_session (s : State) : (s.revokeAll).session = s.session := rfl
@[simp] theorem State.revokeAll_machine (s : State) : (s.revokeAll).machine = s.machine := rfl
@[simp] theorem State.revokeAll_vend (s : State) : (s.revokeAll).vend = s.vend := rfl
@[simp] theorem State.revokeAll_cooling (s : State) : (s.revokeAll).cooling = s.cooling := rfl
@[simp] theorem State.revokeAll_supply (s : State) : (s.revokeAll).supply = s.supply := rfl
@[simp] theorem State.revokeAll_image (s : State) : (s.revokeAll).image = s.image := rfl
@[simp] theorem State.revokeAll_port (s : State) : (s.revokeAll).port = s.port := rfl
@[simp] theorem State.revokeAll_pending (s : State) : (s.revokeAll).pending = s.pending := rfl

/-! ### setOrder -/

@[simp] theorem State.setOrder_lanes (o : Option Order) (s : State) : (s.setOrder o).lanes = s.lanes := rfl
@[simp] theorem State.setOrder_drive (o : Option Order) (s : State) : (s.setOrder o).drive = s.drive := rfl
@[simp] theorem State.setOrder_tubes (o : Option Order) (s : State) : (s.setOrder o).tubes = s.tubes := rfl
@[simp] theorem State.setOrder_coins (o : Option Order) (s : State) : (s.setOrder o).coins = s.coins := rfl
@[simp] theorem State.setOrder_session (o : Option Order) (s : State) : (s.setOrder o).session = s.session := rfl
@[simp] theorem State.setOrder_machine (o : Option Order) (s : State) : (s.setOrder o).machine = s.machine := rfl
@[simp] theorem State.setOrder_vend (o : Option Order) (s : State) : (s.setOrder o).vend = s.vend := rfl
@[simp] theorem State.setOrder_cooling (o : Option Order) (s : State) : (s.setOrder o).cooling = s.cooling := rfl
@[simp] theorem State.setOrder_arbiter (o : Option Order) (s : State) : (s.setOrder o).arbiter = s.arbiter := rfl
@[simp] theorem State.setOrder_supply (o : Option Order) (s : State) : (s.setOrder o).supply = s.supply := rfl
@[simp] theorem State.setOrder_image (o : Option Order) (s : State) : (s.setOrder o).image = s.image := rfl
@[simp] theorem State.setOrder_port (o : Option Order) (s : State) : (s.setOrder o).port = s.port := rfl
@[simp] theorem State.setOrder_pending (o : Option Order) (s : State) : (s.setOrder o).pending = s.pending := rfl

/-! ### setPayoutRecord -/

@[simp] theorem State.setPayoutRecord_lanes (r : PayoutRecord) (s : State) : (s.setPayoutRecord r).lanes = s.lanes := rfl
@[simp] theorem State.setPayoutRecord_drive (r : PayoutRecord) (s : State) : (s.setPayoutRecord r).drive = s.drive := rfl
@[simp] theorem State.setPayoutRecord_tubes (r : PayoutRecord) (s : State) : (s.setPayoutRecord r).tubes = s.tubes := rfl
@[simp] theorem State.setPayoutRecord_coins (r : PayoutRecord) (s : State) : (s.setPayoutRecord r).coins = s.coins := rfl
@[simp] theorem State.setPayoutRecord_session (r : PayoutRecord) (s : State) : (s.setPayoutRecord r).session = s.session := rfl
@[simp] theorem State.setPayoutRecord_machine (r : PayoutRecord) (s : State) : (s.setPayoutRecord r).machine = s.machine := rfl
@[simp] theorem State.setPayoutRecord_vend (r : PayoutRecord) (s : State) : (s.setPayoutRecord r).vend = s.vend := rfl
@[simp] theorem State.setPayoutRecord_cooling (r : PayoutRecord) (s : State) : (s.setPayoutRecord r).cooling = s.cooling := rfl
@[simp] theorem State.setPayoutRecord_arbiter (r : PayoutRecord) (s : State) : (s.setPayoutRecord r).arbiter = s.arbiter := rfl
@[simp] theorem State.setPayoutRecord_supply (r : PayoutRecord) (s : State) : (s.setPayoutRecord r).supply = s.supply := rfl
@[simp] theorem State.setPayoutRecord_image (r : PayoutRecord) (s : State) : (s.setPayoutRecord r).image = s.image := rfl
@[simp] theorem State.setPayoutRecord_port (r : PayoutRecord) (s : State) : (s.setPayoutRecord r).port = s.port := rfl
@[simp] theorem State.setPayoutRecord_pending (r : PayoutRecord) (s : State) : (s.setPayoutRecord r).pending = s.pending := rfl

/-! ### pulse -/

@[simp] theorem State.pulse_lanes (o : Order) (t : TubeNo) (b : Bool) (s : State) : (s.pulse o t b).lanes = s.lanes := rfl
@[simp] theorem State.pulse_drive (o : Order) (t : TubeNo) (b : Bool) (s : State) : (s.pulse o t b).drive = s.drive := rfl
@[simp] theorem State.pulse_tubes (o : Order) (t : TubeNo) (b : Bool) (s : State) : (s.pulse o t b).tubes = s.tubes := rfl
@[simp] theorem State.pulse_coins (o : Order) (t : TubeNo) (b : Bool) (s : State) : (s.pulse o t b).coins = s.coins := rfl
@[simp] theorem State.pulse_session (o : Order) (t : TubeNo) (b : Bool) (s : State) : (s.pulse o t b).session = s.session := rfl
@[simp] theorem State.pulse_machine (o : Order) (t : TubeNo) (b : Bool) (s : State) : (s.pulse o t b).machine = s.machine := rfl
@[simp] theorem State.pulse_vend (o : Order) (t : TubeNo) (b : Bool) (s : State) : (s.pulse o t b).vend = s.vend := rfl
@[simp] theorem State.pulse_cooling (o : Order) (t : TubeNo) (b : Bool) (s : State) : (s.pulse o t b).cooling = s.cooling := rfl
@[simp] theorem State.pulse_arbiter (o : Order) (t : TubeNo) (b : Bool) (s : State) : (s.pulse o t b).arbiter = s.arbiter := rfl
@[simp] theorem State.pulse_supply (o : Order) (t : TubeNo) (b : Bool) (s : State) : (s.pulse o t b).supply = s.supply := rfl
@[simp] theorem State.pulse_image (o : Order) (t : TubeNo) (b : Bool) (s : State) : (s.pulse o t b).image = s.image := rfl
@[simp] theorem State.pulse_port (o : Order) (t : TubeNo) (b : Bool) (s : State) : (s.pulse o t b).port = s.port := rfl
@[simp] theorem State.pulse_pending (o : Order) (t : TubeNo) (b : Bool) (s : State) : (s.pulse o t b).pending = s.pending := rfl

/-! ### mapAwaited -/

@[simp] theorem State.mapAwaited_lanes (f : Awaited → Awaited) (s : State) : (s.mapAwaited f).lanes = s.lanes := rfl
@[simp] theorem State.mapAwaited_drive (f : Awaited → Awaited) (s : State) : (s.mapAwaited f).drive = s.drive := rfl
@[simp] theorem State.mapAwaited_tubes (f : Awaited → Awaited) (s : State) : (s.mapAwaited f).tubes = s.tubes := rfl
@[simp] theorem State.mapAwaited_coins (f : Awaited → Awaited) (s : State) : (s.mapAwaited f).coins = s.coins := rfl
@[simp] theorem State.mapAwaited_session (f : Awaited → Awaited) (s : State) : (s.mapAwaited f).session = s.session := rfl
@[simp] theorem State.mapAwaited_machine (f : Awaited → Awaited) (s : State) : (s.mapAwaited f).machine = s.machine := rfl
@[simp] theorem State.mapAwaited_vend (f : Awaited → Awaited) (s : State) : (s.mapAwaited f).vend = s.vend := rfl
@[simp] theorem State.mapAwaited_cooling (f : Awaited → Awaited) (s : State) : (s.mapAwaited f).cooling = s.cooling := rfl
@[simp] theorem State.mapAwaited_arbiter (f : Awaited → Awaited) (s : State) : (s.mapAwaited f).arbiter = s.arbiter := rfl
@[simp] theorem State.mapAwaited_supply (f : Awaited → Awaited) (s : State) : (s.mapAwaited f).supply = s.supply := rfl
@[simp] theorem State.mapAwaited_image (f : Awaited → Awaited) (s : State) : (s.mapAwaited f).image = s.image := rfl
@[simp] theorem State.mapAwaited_port (f : Awaited → Awaited) (s : State) : (s.mapAwaited f).port = s.port := rfl
@[simp] theorem State.mapAwaited_pending (f : Awaited → Awaited) (s : State) : (s.mapAwaited f).pending = s.pending := rfl

/-! ### limitOvertaken -/

@[simp] theorem State.limitOvertaken_lanes (b : Bool) (s : State) : (s.limitOvertaken b).lanes = s.lanes := by cases b <;> rfl
@[simp] theorem State.limitOvertaken_drive (b : Bool) (s : State) : (s.limitOvertaken b).drive = s.drive := by cases b <;> rfl
@[simp] theorem State.limitOvertaken_tubes (b : Bool) (s : State) : (s.limitOvertaken b).tubes = s.tubes := by cases b <;> rfl
@[simp] theorem State.limitOvertaken_coins (b : Bool) (s : State) : (s.limitOvertaken b).coins = s.coins := by cases b <;> rfl
@[simp] theorem State.limitOvertaken_session (b : Bool) (s : State) : (s.limitOvertaken b).session = s.session := by cases b <;> rfl
@[simp] theorem State.limitOvertaken_machine (b : Bool) (s : State) : (s.limitOvertaken b).machine = s.machine := by cases b <;> rfl
@[simp] theorem State.limitOvertaken_vend (b : Bool) (s : State) : (s.limitOvertaken b).vend = s.vend := by cases b <;> rfl
@[simp] theorem State.limitOvertaken_cooling (b : Bool) (s : State) : (s.limitOvertaken b).cooling = s.cooling := by cases b <;> rfl
@[simp] theorem State.limitOvertaken_arbiter (b : Bool) (s : State) : (s.limitOvertaken b).arbiter = s.arbiter := by cases b <;> rfl
@[simp] theorem State.limitOvertaken_supply (b : Bool) (s : State) : (s.limitOvertaken b).supply = s.supply := by cases b <;> rfl
@[simp] theorem State.limitOvertaken_image (b : Bool) (s : State) : (s.limitOvertaken b).image = s.image := by cases b <;> rfl
@[simp] theorem State.limitOvertaken_port (b : Bool) (s : State) : (s.limitOvertaken b).port = s.port := by cases b <;> rfl
@[simp] theorem State.limitOvertaken_pending (b : Bool) (s : State) : (s.limitOvertaken b).pending = s.pending := by cases b <;> rfl

/-! ### pulsedAfterFault -/

@[simp] theorem State.pulsedAfterFault_lanes (b : Bool) (s : State) : (s.pulsedAfterFault b).lanes = s.lanes := by cases b <;> rfl
@[simp] theorem State.pulsedAfterFault_drive (b : Bool) (s : State) : (s.pulsedAfterFault b).drive = s.drive := by cases b <;> rfl
@[simp] theorem State.pulsedAfterFault_tubes (b : Bool) (s : State) : (s.pulsedAfterFault b).tubes = s.tubes := by cases b <;> rfl
@[simp] theorem State.pulsedAfterFault_coins (b : Bool) (s : State) : (s.pulsedAfterFault b).coins = s.coins := by cases b <;> rfl
@[simp] theorem State.pulsedAfterFault_session (b : Bool) (s : State) : (s.pulsedAfterFault b).session = s.session := by cases b <;> rfl
@[simp] theorem State.pulsedAfterFault_machine (b : Bool) (s : State) : (s.pulsedAfterFault b).machine = s.machine := by cases b <;> rfl
@[simp] theorem State.pulsedAfterFault_vend (b : Bool) (s : State) : (s.pulsedAfterFault b).vend = s.vend := by cases b <;> rfl
@[simp] theorem State.pulsedAfterFault_cooling (b : Bool) (s : State) : (s.pulsedAfterFault b).cooling = s.cooling := by cases b <;> rfl
@[simp] theorem State.pulsedAfterFault_arbiter (b : Bool) (s : State) : (s.pulsedAfterFault b).arbiter = s.arbiter := by cases b <;> rfl
@[simp] theorem State.pulsedAfterFault_supply (b : Bool) (s : State) : (s.pulsedAfterFault b).supply = s.supply := by cases b <;> rfl
@[simp] theorem State.pulsedAfterFault_image (b : Bool) (s : State) : (s.pulsedAfterFault b).image = s.image := by cases b <;> rfl
@[simp] theorem State.pulsedAfterFault_port (b : Bool) (s : State) : (s.pulsedAfterFault b).port = s.port := by cases b <;> rfl
@[simp] theorem State.pulsedAfterFault_pending (b : Bool) (s : State) : (s.pulsedAfterFault b).pending = s.pending := by cases b <;> rfl

/-! ### pulseNext -/

@[simp] theorem State.pulseNext_lanes (o : Order) (s : State) : (s.pulseNext o).lanes = s.lanes := by unfold State.pulseNext; split <;> rfl
@[simp] theorem State.pulseNext_drive (o : Order) (s : State) : (s.pulseNext o).drive = s.drive := by unfold State.pulseNext; split <;> rfl
@[simp] theorem State.pulseNext_tubes (o : Order) (s : State) : (s.pulseNext o).tubes = s.tubes := by unfold State.pulseNext; split <;> rfl
@[simp] theorem State.pulseNext_coins (o : Order) (s : State) : (s.pulseNext o).coins = s.coins := by unfold State.pulseNext; split <;> rfl
@[simp] theorem State.pulseNext_session (o : Order) (s : State) : (s.pulseNext o).session = s.session := by unfold State.pulseNext; split <;> rfl
@[simp] theorem State.pulseNext_machine (o : Order) (s : State) : (s.pulseNext o).machine = s.machine := by unfold State.pulseNext; split <;> rfl
@[simp] theorem State.pulseNext_vend (o : Order) (s : State) : (s.pulseNext o).vend = s.vend := by unfold State.pulseNext; split <;> rfl
@[simp] theorem State.pulseNext_cooling (o : Order) (s : State) : (s.pulseNext o).cooling = s.cooling := by unfold State.pulseNext; split <;> rfl
@[simp] theorem State.pulseNext_arbiter (o : Order) (s : State) : (s.pulseNext o).arbiter = s.arbiter := by unfold State.pulseNext; split <;> rfl
@[simp] theorem State.pulseNext_supply (o : Order) (s : State) : (s.pulseNext o).supply = s.supply := by unfold State.pulseNext; split <;> rfl
@[simp] theorem State.pulseNext_image (o : Order) (s : State) : (s.pulseNext o).image = s.image := by unfold State.pulseNext; split <;> rfl
@[simp] theorem State.pulseNext_port (o : Order) (s : State) : (s.pulseNext o).port = s.port := by unfold State.pulseNext; split <;> rfl
@[simp] theorem State.pulseNext_pending (o : Order) (s : State) : (s.pulseNext o).pending = s.pending := by unfold State.pulseNext; split <;> rfl

/-! ### setVend -/

@[simp] theorem State.setVend_lanes (c : Option VendContext) (s : State) : (s.setVend c).lanes = s.lanes := rfl
@[simp] theorem State.setVend_drive (c : Option VendContext) (s : State) : (s.setVend c).drive = s.drive := rfl
@[simp] theorem State.setVend_tubes (c : Option VendContext) (s : State) : (s.setVend c).tubes = s.tubes := rfl
@[simp] theorem State.setVend_coins (c : Option VendContext) (s : State) : (s.setVend c).coins = s.coins := rfl
@[simp] theorem State.setVend_payout (c : Option VendContext) (s : State) : (s.setVend c).payout = s.payout := rfl
@[simp] theorem State.setVend_session (c : Option VendContext) (s : State) : (s.setVend c).session = s.session := rfl
@[simp] theorem State.setVend_machine (c : Option VendContext) (s : State) : (s.setVend c).machine = s.machine := rfl
@[simp] theorem State.setVend_cooling (c : Option VendContext) (s : State) : (s.setVend c).cooling = s.cooling := rfl
@[simp] theorem State.setVend_arbiter (c : Option VendContext) (s : State) : (s.setVend c).arbiter = s.arbiter := rfl
@[simp] theorem State.setVend_supply (c : Option VendContext) (s : State) : (s.setVend c).supply = s.supply := rfl
@[simp] theorem State.setVend_image (c : Option VendContext) (s : State) : (s.setVend c).image = s.image := rfl
@[simp] theorem State.setVend_port (c : Option VendContext) (s : State) : (s.setVend c).port = s.port := rfl
@[simp] theorem State.setVend_pending (c : Option VendContext) (s : State) : (s.setVend c).pending = s.pending := rfl

/-! ### recordDrop -/

@[simp] theorem State.recordDrop_drive (s : State) : (s.recordDrop).drive = s.drive := by unfold State.recordDrop; split <;> (dsimp only; try split) <;> rfl
@[simp] theorem State.recordDrop_tubes (s : State) : (s.recordDrop).tubes = s.tubes := by unfold State.recordDrop; split <;> (dsimp only; try split) <;> rfl
@[simp] theorem State.recordDrop_coins (s : State) : (s.recordDrop).coins = s.coins := by unfold State.recordDrop; split <;> (dsimp only; try split) <;> rfl
@[simp] theorem State.recordDrop_payout (s : State) : (s.recordDrop).payout = s.payout := by unfold State.recordDrop; split <;> (dsimp only; try split) <;> rfl
@[simp] theorem State.recordDrop_machine (s : State) : (s.recordDrop).machine = s.machine := by unfold State.recordDrop; split <;> (dsimp only; try split) <;> rfl
@[simp] theorem State.recordDrop_cooling (s : State) : (s.recordDrop).cooling = s.cooling := by unfold State.recordDrop; split <;> (dsimp only; try split) <;> rfl
@[simp] theorem State.recordDrop_arbiter (s : State) : (s.recordDrop).arbiter = s.arbiter := by unfold State.recordDrop; split <;> (dsimp only; try split) <;> rfl
@[simp] theorem State.recordDrop_supply (s : State) : (s.recordDrop).supply = s.supply := by unfold State.recordDrop; split <;> (dsimp only; try split) <;> rfl
@[simp] theorem State.recordDrop_image (s : State) : (s.recordDrop).image = s.image := by unfold State.recordDrop; split <;> (dsimp only; try split) <;> rfl
@[simp] theorem State.recordDrop_port (s : State) : (s.recordDrop).port = s.port := by unfold State.recordDrop; split <;> (dsimp only; try split) <;> rfl
@[simp] theorem State.recordDrop_pending (s : State) : (s.recordDrop).pending = s.pending := by unfold State.recordDrop; split <;> (dsimp only; try split) <;> rfl

/-! ### homeOpened -/

@[simp] theorem State.homeOpened_lanes (s : State) : (s.homeOpened).lanes = s.lanes := by unfold State.homeOpened; split <;> rfl
@[simp] theorem State.homeOpened_drive (s : State) : (s.homeOpened).drive = s.drive := by unfold State.homeOpened; split <;> rfl
@[simp] theorem State.homeOpened_tubes (s : State) : (s.homeOpened).tubes = s.tubes := by unfold State.homeOpened; split <;> rfl
@[simp] theorem State.homeOpened_coins (s : State) : (s.homeOpened).coins = s.coins := by unfold State.homeOpened; split <;> rfl
@[simp] theorem State.homeOpened_payout (s : State) : (s.homeOpened).payout = s.payout := by unfold State.homeOpened; split <;> rfl
@[simp] theorem State.homeOpened_session (s : State) : (s.homeOpened).session = s.session := by unfold State.homeOpened; split <;> rfl
@[simp] theorem State.homeOpened_machine (s : State) : (s.homeOpened).machine = s.machine := by unfold State.homeOpened; split <;> rfl
@[simp] theorem State.homeOpened_cooling (s : State) : (s.homeOpened).cooling = s.cooling := by unfold State.homeOpened; split <;> rfl
@[simp] theorem State.homeOpened_arbiter (s : State) : (s.homeOpened).arbiter = s.arbiter := by unfold State.homeOpened; split <;> rfl
@[simp] theorem State.homeOpened_supply (s : State) : (s.homeOpened).supply = s.supply := by unfold State.homeOpened; split <;> rfl
@[simp] theorem State.homeOpened_image (s : State) : (s.homeOpened).image = s.image := by unfold State.homeOpened; split <;> rfl
@[simp] theorem State.homeOpened_port (s : State) : (s.homeOpened).port = s.port := by unfold State.homeOpened; split <;> rfl
@[simp] theorem State.homeOpened_pending (s : State) : (s.homeOpened).pending = s.pending := by unfold State.homeOpened; split <;> rfl

/-! ### mapDrive -/

@[simp] theorem State.mapDrive_lanes (f : DriveContext → DriveContext) (s : State) : (s.mapDrive f).lanes = s.lanes := rfl
@[simp] theorem State.mapDrive_tubes (f : DriveContext → DriveContext) (s : State) : (s.mapDrive f).tubes = s.tubes := rfl
@[simp] theorem State.mapDrive_coins (f : DriveContext → DriveContext) (s : State) : (s.mapDrive f).coins = s.coins := rfl
@[simp] theorem State.mapDrive_payout (f : DriveContext → DriveContext) (s : State) : (s.mapDrive f).payout = s.payout := rfl
@[simp] theorem State.mapDrive_session (f : DriveContext → DriveContext) (s : State) : (s.mapDrive f).session = s.session := rfl
@[simp] theorem State.mapDrive_machine (f : DriveContext → DriveContext) (s : State) : (s.mapDrive f).machine = s.machine := rfl
@[simp] theorem State.mapDrive_vend (f : DriveContext → DriveContext) (s : State) : (s.mapDrive f).vend = s.vend := rfl
@[simp] theorem State.mapDrive_cooling (f : DriveContext → DriveContext) (s : State) : (s.mapDrive f).cooling = s.cooling := rfl
@[simp] theorem State.mapDrive_arbiter (f : DriveContext → DriveContext) (s : State) : (s.mapDrive f).arbiter = s.arbiter := rfl
@[simp] theorem State.mapDrive_supply (f : DriveContext → DriveContext) (s : State) : (s.mapDrive f).supply = s.supply := rfl
@[simp] theorem State.mapDrive_image (f : DriveContext → DriveContext) (s : State) : (s.mapDrive f).image = s.image := rfl
@[simp] theorem State.mapDrive_port (f : DriveContext → DriveContext) (s : State) : (s.mapDrive f).port = s.port := rfl
@[simp] theorem State.mapDrive_pending (f : DriveContext → DriveContext) (s : State) : (s.mapDrive f).pending = s.pending := rfl
@[simp] theorem State.mapDrive_drive (f : DriveContext → DriveContext) (s : State) :
    (s.mapDrive f).drive = { s.drive with context := s.drive.context.map f } := rfl

/-- With no lane driven a change of the drive context changes nothing. -/
theorem State.mapDrive_none (f : DriveContext → DriveContext) (s : State) (h : s.drive.context = none) :
    s.mapDrive f = s := by
  unfold State.mapDrive
  rw [h, Option.map_none, ← h]

/-! ### endsOver -/

@[simp] theorem DriveContext.endsOver_lane (d e : DriveContext) : (d.endsOver e).lane = e.lane := rfl
@[simp] theorem DriveContext.endsOver_homeLevel (d e : DriveContext) : (d.endsOver e).homeLevel = e.homeLevel := rfl
@[simp] theorem DriveContext.endsOver_stallDebounce (d e : DriveContext) :
    (d.endsOver e).stallDebounce = e.stallDebounce := rfl
@[simp] theorem DriveContext.endsOver_edgeOver (d e : DriveContext) : (d.endsOver e).edgeOver = d.edgeComes := rfl
@[simp] theorem DriveContext.endsOver_checkOver (d e : DriveContext) :
    (d.endsOver e).checkOver = !d.openCheckPassed := rfl

/-! ### setDrive -/

@[simp] theorem State.setDrive_lanes (d : DriveContext) (s : State) : (s.setDrive d).lanes = s.lanes := rfl
@[simp] theorem State.setDrive_tubes (d : DriveContext) (s : State) : (s.setDrive d).tubes = s.tubes := rfl
@[simp] theorem State.setDrive_coins (d : DriveContext) (s : State) : (s.setDrive d).coins = s.coins := rfl
@[simp] theorem State.setDrive_payout (d : DriveContext) (s : State) : (s.setDrive d).payout = s.payout := rfl
@[simp] theorem State.setDrive_session (d : DriveContext) (s : State) : (s.setDrive d).session = s.session := rfl
@[simp] theorem State.setDrive_machine (d : DriveContext) (s : State) : (s.setDrive d).machine = s.machine := rfl
@[simp] theorem State.setDrive_vend (d : DriveContext) (s : State) : (s.setDrive d).vend = s.vend := rfl
@[simp] theorem State.setDrive_cooling (d : DriveContext) (s : State) : (s.setDrive d).cooling = s.cooling := rfl
@[simp] theorem State.setDrive_arbiter (d : DriveContext) (s : State) : (s.setDrive d).arbiter = s.arbiter := rfl
@[simp] theorem State.setDrive_supply (d : DriveContext) (s : State) : (s.setDrive d).supply = s.supply := rfl
@[simp] theorem State.setDrive_image (d : DriveContext) (s : State) : (s.setDrive d).image = s.image := rfl
@[simp] theorem State.setDrive_port (d : DriveContext) (s : State) : (s.setDrive d).port = s.port := rfl
@[simp] theorem State.setDrive_pending (d : DriveContext) (s : State) : (s.setDrive d).pending = s.pending := rfl

/-! ### setCooling -/

@[simp] theorem State.setCooling_lanes (c : Cooling) (s : State) : (s.setCooling c).lanes = s.lanes := rfl
@[simp] theorem State.setCooling_drive (c : Cooling) (s : State) : (s.setCooling c).drive = s.drive := rfl
@[simp] theorem State.setCooling_tubes (c : Cooling) (s : State) : (s.setCooling c).tubes = s.tubes := rfl
@[simp] theorem State.setCooling_coins (c : Cooling) (s : State) : (s.setCooling c).coins = s.coins := rfl
@[simp] theorem State.setCooling_payout (c : Cooling) (s : State) : (s.setCooling c).payout = s.payout := rfl
@[simp] theorem State.setCooling_session (c : Cooling) (s : State) : (s.setCooling c).session = s.session := rfl
@[simp] theorem State.setCooling_machine (c : Cooling) (s : State) : (s.setCooling c).machine = s.machine := rfl
@[simp] theorem State.setCooling_vend (c : Cooling) (s : State) : (s.setCooling c).vend = s.vend := rfl
@[simp] theorem State.setCooling_arbiter (c : Cooling) (s : State) : (s.setCooling c).arbiter = s.arbiter := rfl
@[simp] theorem State.setCooling_supply (c : Cooling) (s : State) : (s.setCooling c).supply = s.supply := rfl
@[simp] theorem State.setCooling_image (c : Cooling) (s : State) : (s.setCooling c).image = s.image := rfl
@[simp] theorem State.setCooling_port (c : Cooling) (s : State) : (s.setCooling c).port = s.port := rfl
@[simp] theorem State.setCooling_pending (c : Cooling) (s : State) : (s.setCooling c).pending = s.pending := rfl

/-! ### compressorGranted -/

@[simp] theorem State.compressorGranted_lanes (s : State) : (s.compressorGranted).lanes = s.lanes := by unfold State.compressorGranted; split <;> rfl
@[simp] theorem State.compressorGranted_drive (s : State) : (s.compressorGranted).drive = s.drive := by unfold State.compressorGranted; split <;> rfl
@[simp] theorem State.compressorGranted_tubes (s : State) : (s.compressorGranted).tubes = s.tubes := by unfold State.compressorGranted; split <;> rfl
@[simp] theorem State.compressorGranted_coins (s : State) : (s.compressorGranted).coins = s.coins := by unfold State.compressorGranted; split <;> rfl
@[simp] theorem State.compressorGranted_payout (s : State) : (s.compressorGranted).payout = s.payout := by unfold State.compressorGranted; split <;> rfl
@[simp] theorem State.compressorGranted_session (s : State) : (s.compressorGranted).session = s.session := by unfold State.compressorGranted; split <;> rfl
@[simp] theorem State.compressorGranted_machine (s : State) : (s.compressorGranted).machine = s.machine := by unfold State.compressorGranted; split <;> rfl
@[simp] theorem State.compressorGranted_vend (s : State) : (s.compressorGranted).vend = s.vend := by unfold State.compressorGranted; split <;> rfl
@[simp] theorem State.compressorGranted_arbiter (s : State) : (s.compressorGranted).arbiter = s.arbiter := by unfold State.compressorGranted; split <;> rfl
@[simp] theorem State.compressorGranted_supply (s : State) : (s.compressorGranted).supply = s.supply := by unfold State.compressorGranted; split <;> rfl
@[simp] theorem State.compressorGranted_image (s : State) : (s.compressorGranted).image = s.image := by unfold State.compressorGranted; split <;> rfl
@[simp] theorem State.compressorGranted_port (s : State) : (s.compressorGranted).port = s.port := by unfold State.compressorGranted; split <;> rfl
@[simp] theorem State.compressorGranted_pending (s : State) : (s.compressorGranted).pending = s.pending := by unfold State.compressorGranted; split <;> rfl

/-! ### latchHold -/

@[simp] theorem State.latchHold_lanes (s : State) : (s.latchHold).lanes = s.lanes := rfl
@[simp] theorem State.latchHold_drive (s : State) : (s.latchHold).drive = s.drive := rfl
@[simp] theorem State.latchHold_tubes (s : State) : (s.latchHold).tubes = s.tubes := rfl
@[simp] theorem State.latchHold_coins (s : State) : (s.latchHold).coins = s.coins := rfl
@[simp] theorem State.latchHold_payout (s : State) : (s.latchHold).payout = s.payout := rfl
@[simp] theorem State.latchHold_session (s : State) : (s.latchHold).session = s.session := rfl
@[simp] theorem State.latchHold_machine (s : State) : (s.latchHold).machine = s.machine := rfl
@[simp] theorem State.latchHold_vend (s : State) : (s.latchHold).vend = s.vend := rfl
@[simp] theorem State.latchHold_arbiter (s : State) : (s.latchHold).arbiter = s.arbiter := rfl
@[simp] theorem State.latchHold_supply (s : State) : (s.latchHold).supply = s.supply := rfl
@[simp] theorem State.latchHold_image (s : State) : (s.latchHold).image = s.image := rfl
@[simp] theorem State.latchHold_pending (s : State) : (s.latchHold).pending = s.pending := rfl

/-! ### evaluateHold -/

@[simp] theorem State.evaluateHold_lanes (s : State) : (s.evaluateHold).lanes = s.lanes := by unfold State.evaluateHold; split <;> (try split) <;> rfl
@[simp] theorem State.evaluateHold_drive (s : State) : (s.evaluateHold).drive = s.drive := by unfold State.evaluateHold; split <;> (try split) <;> rfl
@[simp] theorem State.evaluateHold_tubes (s : State) : (s.evaluateHold).tubes = s.tubes := by unfold State.evaluateHold; split <;> (try split) <;> rfl
@[simp] theorem State.evaluateHold_coins (s : State) : (s.evaluateHold).coins = s.coins := by unfold State.evaluateHold; split <;> (try split) <;> rfl
@[simp] theorem State.evaluateHold_payout (s : State) : (s.evaluateHold).payout = s.payout := by unfold State.evaluateHold; split <;> (try split) <;> rfl
@[simp] theorem State.evaluateHold_session (s : State) : (s.evaluateHold).session = s.session := by unfold State.evaluateHold; split <;> (try split) <;> rfl
@[simp] theorem State.evaluateHold_machine (s : State) : (s.evaluateHold).machine = s.machine := by unfold State.evaluateHold; split <;> (try split) <;> rfl
@[simp] theorem State.evaluateHold_vend (s : State) : (s.evaluateHold).vend = s.vend := by unfold State.evaluateHold; split <;> (try split) <;> rfl
@[simp] theorem State.evaluateHold_arbiter (s : State) : (s.evaluateHold).arbiter = s.arbiter := by unfold State.evaluateHold; split <;> (try split) <;> rfl
@[simp] theorem State.evaluateHold_supply (s : State) : (s.evaluateHold).supply = s.supply := by unfold State.evaluateHold; split <;> (try split) <;> rfl
@[simp] theorem State.evaluateHold_image (s : State) : (s.evaluateHold).image = s.image := by unfold State.evaluateHold; split <;> (try split) <;> rfl
@[simp] theorem State.evaluateHold_port (s : State) : (s.evaluateHold).port = s.port := by unfold State.evaluateHold; split <;> (try split) <;> rfl
@[simp] theorem State.evaluateHold_pending (s : State) : (s.evaluateHold).pending = s.pending := by unfold State.evaluateHold; split <;> (try split) <;> rfl

/-! ### returnCoin -/

@[simp] theorem State.returnCoin_lanes (r : RejectReason) (t : Option CoinTypeNo) (s : State) : (s.returnCoin r t).lanes = s.lanes := rfl
@[simp] theorem State.returnCoin_drive (r : RejectReason) (t : Option CoinTypeNo) (s : State) : (s.returnCoin r t).drive = s.drive := rfl
@[simp] theorem State.returnCoin_tubes (r : RejectReason) (t : Option CoinTypeNo) (s : State) : (s.returnCoin r t).tubes = s.tubes := rfl
@[simp] theorem State.returnCoin_payout (r : RejectReason) (t : Option CoinTypeNo) (s : State) : (s.returnCoin r t).payout = s.payout := rfl
@[simp] theorem State.returnCoin_session (r : RejectReason) (t : Option CoinTypeNo) (s : State) : (s.returnCoin r t).session = s.session := rfl
@[simp] theorem State.returnCoin_machine (r : RejectReason) (t : Option CoinTypeNo) (s : State) : (s.returnCoin r t).machine = s.machine := rfl
@[simp] theorem State.returnCoin_vend (r : RejectReason) (t : Option CoinTypeNo) (s : State) : (s.returnCoin r t).vend = s.vend := rfl
@[simp] theorem State.returnCoin_cooling (r : RejectReason) (t : Option CoinTypeNo) (s : State) : (s.returnCoin r t).cooling = s.cooling := rfl
@[simp] theorem State.returnCoin_arbiter (r : RejectReason) (t : Option CoinTypeNo) (s : State) : (s.returnCoin r t).arbiter = s.arbiter := rfl
@[simp] theorem State.returnCoin_supply (r : RejectReason) (t : Option CoinTypeNo) (s : State) : (s.returnCoin r t).supply = s.supply := rfl
@[simp] theorem State.returnCoin_image (r : RejectReason) (t : Option CoinTypeNo) (s : State) : (s.returnCoin r t).image = s.image := rfl
@[simp] theorem State.returnCoin_port (r : RejectReason) (t : Option CoinTypeNo) (s : State) : (s.returnCoin r t).port = s.port := rfl
@[simp] theorem State.returnCoin_pending (r : RejectReason) (t : Option CoinTypeNo) (s : State) : (s.returnCoin r t).pending = s.pending := rfl

/-! ### acceptCoin -/

@[simp] theorem State.acceptCoin_lanes (t : CoinTypeNo) (e : CoinEntry) (s : State) : (s.acceptCoin t e).lanes = s.lanes := rfl
@[simp] theorem State.acceptCoin_drive (t : CoinTypeNo) (e : CoinEntry) (s : State) : (s.acceptCoin t e).drive = s.drive := rfl
@[simp] theorem State.acceptCoin_tubes (t : CoinTypeNo) (e : CoinEntry) (s : State) : (s.acceptCoin t e).tubes = s.tubes := rfl
@[simp] theorem State.acceptCoin_payout (t : CoinTypeNo) (e : CoinEntry) (s : State) : (s.acceptCoin t e).payout = s.payout := rfl
@[simp] theorem State.acceptCoin_session (t : CoinTypeNo) (e : CoinEntry) (s : State) : (s.acceptCoin t e).session = s.session := rfl
@[simp] theorem State.acceptCoin_machine (t : CoinTypeNo) (e : CoinEntry) (s : State) : (s.acceptCoin t e).machine = s.machine := rfl
@[simp] theorem State.acceptCoin_vend (t : CoinTypeNo) (e : CoinEntry) (s : State) : (s.acceptCoin t e).vend = s.vend := rfl
@[simp] theorem State.acceptCoin_cooling (t : CoinTypeNo) (e : CoinEntry) (s : State) : (s.acceptCoin t e).cooling = s.cooling := rfl
@[simp] theorem State.acceptCoin_arbiter (t : CoinTypeNo) (e : CoinEntry) (s : State) : (s.acceptCoin t e).arbiter = s.arbiter := rfl
@[simp] theorem State.acceptCoin_supply (t : CoinTypeNo) (e : CoinEntry) (s : State) : (s.acceptCoin t e).supply = s.supply := rfl
@[simp] theorem State.acceptCoin_image (t : CoinTypeNo) (e : CoinEntry) (s : State) : (s.acceptCoin t e).image = s.image := rfl
@[simp] theorem State.acceptCoin_port (t : CoinTypeNo) (e : CoinEntry) (s : State) : (s.acceptCoin t e).port = s.port := rfl
@[simp] theorem State.acceptCoin_pending (t : CoinTypeNo) (e : CoinEntry) (s : State) : (s.acceptCoin t e).pending = s.pending := rfl

/-! ### emptySlot -/

@[simp] theorem State.emptySlot_lanes (s : State) : (s.emptySlot).lanes = s.lanes := rfl
@[simp] theorem State.emptySlot_drive (s : State) : (s.emptySlot).drive = s.drive := rfl
@[simp] theorem State.emptySlot_tubes (s : State) : (s.emptySlot).tubes = s.tubes := rfl
@[simp] theorem State.emptySlot_payout (s : State) : (s.emptySlot).payout = s.payout := rfl
@[simp] theorem State.emptySlot_session (s : State) : (s.emptySlot).session = s.session := rfl
@[simp] theorem State.emptySlot_machine (s : State) : (s.emptySlot).machine = s.machine := rfl
@[simp] theorem State.emptySlot_vend (s : State) : (s.emptySlot).vend = s.vend := rfl
@[simp] theorem State.emptySlot_cooling (s : State) : (s.emptySlot).cooling = s.cooling := rfl
@[simp] theorem State.emptySlot_arbiter (s : State) : (s.emptySlot).arbiter = s.arbiter := rfl
@[simp] theorem State.emptySlot_supply (s : State) : (s.emptySlot).supply = s.supply := rfl
@[simp] theorem State.emptySlot_image (s : State) : (s.emptySlot).image = s.image := rfl
@[simp] theorem State.emptySlot_port (s : State) : (s.emptySlot).port = s.port := rfl
@[simp] theorem State.emptySlot_pending (s : State) : (s.emptySlot).pending = s.pending := rfl

/-! ### assertSupply -/

@[simp] theorem State.assertSupply_lanes (k : SupplyKind) (s : State) : (s.assertSupply k).lanes = s.lanes := by cases k <;> rfl
@[simp] theorem State.assertSupply_drive (k : SupplyKind) (s : State) : (s.assertSupply k).drive = s.drive := by cases k <;> rfl
@[simp] theorem State.assertSupply_tubes (k : SupplyKind) (s : State) : (s.assertSupply k).tubes = s.tubes := by cases k <;> rfl
@[simp] theorem State.assertSupply_coins (k : SupplyKind) (s : State) : (s.assertSupply k).coins = s.coins := by cases k <;> rfl
@[simp] theorem State.assertSupply_payout (k : SupplyKind) (s : State) : (s.assertSupply k).payout = s.payout := by cases k <;> rfl
@[simp] theorem State.assertSupply_session (k : SupplyKind) (s : State) : (s.assertSupply k).session = s.session := by cases k <;> rfl
@[simp] theorem State.assertSupply_machine (k : SupplyKind) (s : State) : (s.assertSupply k).machine = s.machine := by cases k <;> rfl
@[simp] theorem State.assertSupply_vend (k : SupplyKind) (s : State) : (s.assertSupply k).vend = s.vend := by cases k <;> rfl
@[simp] theorem State.assertSupply_cooling (k : SupplyKind) (s : State) : (s.assertSupply k).cooling = s.cooling := by cases k <;> rfl
@[simp] theorem State.assertSupply_arbiter (k : SupplyKind) (s : State) : (s.assertSupply k).arbiter = s.arbiter := by cases k <;> rfl
@[simp] theorem State.assertSupply_image (k : SupplyKind) (s : State) : (s.assertSupply k).image = s.image := by cases k <;> rfl
@[simp] theorem State.assertSupply_pending (k : SupplyKind) (s : State) : (s.assertSupply k).pending = s.pending := by cases k <;> rfl

/-! ### clearSupply -/

@[simp] theorem State.clearSupply_lanes (k : SupplyKind) (s : State) : (s.clearSupply k).lanes = s.lanes := by cases k <;> rfl
@[simp] theorem State.clearSupply_drive (k : SupplyKind) (s : State) : (s.clearSupply k).drive = s.drive := by cases k <;> rfl
@[simp] theorem State.clearSupply_tubes (k : SupplyKind) (s : State) : (s.clearSupply k).tubes = s.tubes := by cases k <;> rfl
@[simp] theorem State.clearSupply_coins (k : SupplyKind) (s : State) : (s.clearSupply k).coins = s.coins := by cases k <;> rfl
@[simp] theorem State.clearSupply_payout (k : SupplyKind) (s : State) : (s.clearSupply k).payout = s.payout := by cases k <;> rfl
@[simp] theorem State.clearSupply_session (k : SupplyKind) (s : State) : (s.clearSupply k).session = s.session := by cases k <;> rfl
@[simp] theorem State.clearSupply_machine (k : SupplyKind) (s : State) : (s.clearSupply k).machine = s.machine := by cases k <;> rfl
@[simp] theorem State.clearSupply_vend (k : SupplyKind) (s : State) : (s.clearSupply k).vend = s.vend := by cases k <;> rfl
@[simp] theorem State.clearSupply_cooling (k : SupplyKind) (s : State) : (s.clearSupply k).cooling = s.cooling := by cases k <;> rfl
@[simp] theorem State.clearSupply_arbiter (k : SupplyKind) (s : State) : (s.clearSupply k).arbiter = s.arbiter := by cases k <;> rfl
@[simp] theorem State.clearSupply_image (k : SupplyKind) (s : State) : (s.clearSupply k).image = s.image := by cases k <;> rfl
@[simp] theorem State.clearSupply_port (k : SupplyKind) (s : State) : (s.clearSupply k).port = s.port := by cases k <;> rfl
@[simp] theorem State.clearSupply_pending (k : SupplyKind) (s : State) : (s.clearSupply k).pending = s.pending := by cases k <;> rfl

/-! ### sampleCell -/

@[simp] theorem State.sampleCell_lanes (n : Nat) (s : State) : (s.sampleCell n).lanes = s.lanes := by simp [State.sampleCell]
@[simp] theorem State.sampleCell_drive (n : Nat) (s : State) : (s.sampleCell n).drive = s.drive := by simp [State.sampleCell]
@[simp] theorem State.sampleCell_tubes (n : Nat) (s : State) : (s.sampleCell n).tubes = s.tubes := by simp [State.sampleCell]
@[simp] theorem State.sampleCell_coins (n : Nat) (s : State) : (s.sampleCell n).coins = s.coins := by simp [State.sampleCell]
@[simp] theorem State.sampleCell_payout (n : Nat) (s : State) : (s.sampleCell n).payout = s.payout := by simp [State.sampleCell]
@[simp] theorem State.sampleCell_session (n : Nat) (s : State) : (s.sampleCell n).session = s.session := by simp [State.sampleCell]
@[simp] theorem State.sampleCell_machine (n : Nat) (s : State) : (s.sampleCell n).machine = s.machine := by simp [State.sampleCell]
@[simp] theorem State.sampleCell_vend (n : Nat) (s : State) : (s.sampleCell n).vend = s.vend := by simp [State.sampleCell]
@[simp] theorem State.sampleCell_cooling (n : Nat) (s : State) : (s.sampleCell n).cooling = s.cooling := by simp [State.sampleCell]
@[simp] theorem State.sampleCell_arbiter (n : Nat) (s : State) : (s.sampleCell n).arbiter = s.arbiter := by simp [State.sampleCell]
@[simp] theorem State.sampleCell_image (n : Nat) (s : State) : (s.sampleCell n).image = s.image := by simp [State.sampleCell]
@[simp] theorem State.sampleCell_pending (n : Nat) (s : State) : (s.sampleCell n).pending = s.pending := by simp [State.sampleCell]

/-! ### acknowledge -/

@[simp] theorem State.acknowledge_lanes (w : BitVec 17) (s : State) : (s.acknowledge w).lanes = s.lanes := rfl
@[simp] theorem State.acknowledge_drive (w : BitVec 17) (s : State) : (s.acknowledge w).drive = s.drive := rfl
@[simp] theorem State.acknowledge_tubes (w : BitVec 17) (s : State) : (s.acknowledge w).tubes = s.tubes := rfl
@[simp] theorem State.acknowledge_coins (w : BitVec 17) (s : State) : (s.acknowledge w).coins = s.coins := rfl
@[simp] theorem State.acknowledge_payout (w : BitVec 17) (s : State) : (s.acknowledge w).payout = s.payout := rfl
@[simp] theorem State.acknowledge_session (w : BitVec 17) (s : State) : (s.acknowledge w).session = s.session := rfl
@[simp] theorem State.acknowledge_machine (w : BitVec 17) (s : State) : (s.acknowledge w).machine = s.machine := rfl
@[simp] theorem State.acknowledge_vend (w : BitVec 17) (s : State) : (s.acknowledge w).vend = s.vend := rfl
@[simp] theorem State.acknowledge_cooling (w : BitVec 17) (s : State) : (s.acknowledge w).cooling = s.cooling := rfl
@[simp] theorem State.acknowledge_arbiter (w : BitVec 17) (s : State) : (s.acknowledge w).arbiter = s.arbiter := rfl
@[simp] theorem State.acknowledge_image (w : BitVec 17) (s : State) : (s.acknowledge w).image = s.image := rfl
@[simp] theorem State.acknowledge_pending (w : BitVec 17) (s : State) : (s.acknowledge w).pending = s.pending := rfl

/-! ### beginStore -/

@[simp] theorem State.beginStore_lanes (s : State) : (s.beginStore).lanes = s.lanes := rfl
@[simp] theorem State.beginStore_drive (s : State) : (s.beginStore).drive = s.drive := rfl
@[simp] theorem State.beginStore_tubes (s : State) : (s.beginStore).tubes = s.tubes := rfl
@[simp] theorem State.beginStore_coins (s : State) : (s.beginStore).coins = s.coins := rfl
@[simp] theorem State.beginStore_payout (s : State) : (s.beginStore).payout = s.payout := rfl
@[simp] theorem State.beginStore_session (s : State) : (s.beginStore).session = s.session := rfl
@[simp] theorem State.beginStore_machine (s : State) : (s.beginStore).machine = s.machine := rfl
@[simp] theorem State.beginStore_vend (s : State) : (s.beginStore).vend = s.vend := rfl
@[simp] theorem State.beginStore_cooling (s : State) : (s.beginStore).cooling = s.cooling := rfl
@[simp] theorem State.beginStore_arbiter (s : State) : (s.beginStore).arbiter = s.arbiter := rfl
@[simp] theorem State.beginStore_supply (s : State) : (s.beginStore).supply = s.supply := rfl
@[simp] theorem State.beginStore_port (s : State) : (s.beginStore).port = s.port := rfl
@[simp] theorem State.beginStore_pending (s : State) : (s.beginStore).pending = s.pending := rfl

/-! ### What the updates write -/

@[simp] theorem State.setVend_vend (c : Option VendContext) (s : State) : (s.setVend c).vend = { s.vend with context := c } := rfl
@[simp] theorem State.setOrder_payout (o : Option Order) (s : State) : (s.setOrder o).payout = { s.payout with order := o } := rfl
@[simp] theorem State.setCooling_cooling (c : Cooling) (s : State) : (s.setCooling c).cooling = c := rfl
@[simp] theorem State.setDrive_drive (d : DriveContext) (s : State) : (s.setDrive d).drive = { s.drive with context := some d } := rfl
@[simp] theorem State.setEntry_arbiter (c : Consumer) (e : Entry) (s : State) :
    (s.setEntry c e).arbiter = { s.arbiter with table := s.arbiter.table.setEntry c e } := rfl
@[simp] theorem State.setFlag_port (f : Flag) (s : State) : (s.setFlag f).port = { s.port with flags := s.port.flags ||| f.word } := rfl
@[simp] theorem State.emptySlot_coins (s : State) : s.emptySlot.coins = { s.coins with slot := none } := rfl
@[simp] theorem State.clearCancel_session (s : State) : s.clearCancel.session = { s.session with cancelPending := false } := rfl
@[simp] theorem State.idleSession_session (s : State) :
    s.idleSession.session = { s.session with state := .idle, timer := none } := rfl
@[simp] theorem State.openSession_session (s : State) :
    s.openSession.session = { s.session with state := .opened, timer := s.machine.activityTimer } := rfl

@[simp] theorem State.pulse_order (o : Order) (t : TubeNo) (b : Bool) (s : State) :
    (s.pulse o t b).payout.order =
      some { o with awaited := some { tube := t, retry := b, timer := Timer.start s.machine.payoutCoinLimit } } := rfl
@[simp] theorem State.mapAwaited_payout (f : Awaited → Awaited) (s : State) :
    (s.mapAwaited f).payout =
      { s.payout with order := s.payout.order.map fun o => { o with awaited := o.awaited.map f } } := rfl
@[simp] theorem State.limitOvertaken_held (b : Bool) (s : State) :
    (s.limitOvertaken b).payout.held = s.payout.held := by cases b <;> rfl
@[simp] theorem State.pulsedAfterFault_held (b : Bool) (s : State) :
    (s.pulsedAfterFault b).payout.held = s.payout.held := by cases b <;> rfl

@[simp] theorem State.timerReplacing_session (o : Option Timer) (s : State) :
    (s.timerReplacing o).session = { s.session with timer := s.session.timer.map (Timer.replacing o) } := rfl

/-! ### Timers and the marks of met events -/

@[simp] theorem Timer.replacing_elapsed (old : Option Timer) (t : Timer) : (t.replacing old).elapsed = t.elapsed := rfl
@[simp] theorem Timer.replacing_limit (old : Option Timer) (t : Timer) : (t.replacing old).limit = t.limit := rfl
@[simp] theorem Timer.replacing_overtaken (old : Option Timer) (t : Timer) :
    (t.replacing old).overtaken = (t.overtaken || timerSpent old) := rfl

/-- What the expiry of a timer meets: a running timer without the mark. -/
theorem takesExpiry_iff (o : Option Timer) : takesExpiry o = true ↔ ∃ t, o = some t ∧ t.overtaken = false := by
  cases o <;> simp [takesExpiry]

/-- Which timers are due: those running that have reached their limit. -/
theorem timerDue_iff (o : Option Timer) : timerDue o = true ↔ ∃ t, o = some t ∧ t.limit ≤ t.elapsed := by
  cases o <;> simp [timerDue, Timer.isDue]

/-- Which timers are spent: those running that have reached their limit, or that bear the mark. -/
theorem timerSpent_iff (o : Option Timer) :
    timerSpent o = true ↔ ∃ t, o = some t ∧ (t.limit ≤ t.elapsed ∨ t.overtaken = true) := by
  cases o <;> simp [timerSpent, Timer.spent, Timer.isDue]

/-- One tube's solenoid after a pulse: it has begun the 30 ms pulse, and every other one stands (R84). -/
theorem State.solenoid_pulse (o : Order) (t u : TubeNo) (b : Bool) (s : State) :
    (s.pulse o t b).payout.solenoids[u] = if t = u then some (Timer.start 30) else s.payout.solenoids[u] := by
  unfold State.pulse
  simp only [Fin.getElem_fin, Vector.getElem_set, Fin.ext_iff]

/-! ### One lane or tube read after a write -/

/-- A lane reads what was last set for it, and every other lane reads as before. -/
theorem State.lane_setLane (l k : LaneNo) (r : LaneRecord) (s : State) :
    (s.setLane l r).lane k = if l = k then r else s.lane k := by
  unfold State.lane State.setLane
  simp only [Fin.getElem_fin, Vector.getElem_set, Fin.ext_iff]

/-- A tube reads what was last set for it, and every other tube reads as before. -/
theorem State.tube_setTube (t u : TubeNo) (r : Tube) (s : State) :
    (s.setTube t r).tube u = if t = u then r else s.tube u := by
  unfold State.tube State.setTube
  simp only [Fin.getElem_fin, Vector.getElem_set, Fin.ext_iff]

/-- An entry reads what was last set for it, and every other entry as before. -/
theorem GrantTable.entry_setEntry (c d : Consumer) (e : Entry) (g : GrantTable) :
    (g.setEntry c e).entry d = if c = d then e else g.entry d := by
  cases c <;> cases d <;> rfl

end Sys2Proof.Machine
end

