-- ==== Sys2Proof/Laws/Cooling.lean ====
section
/-! SUPPORT. What each shared operation of the Cooling Controller can do, said once in the terms of Safety.lean: the
compressor's stop and its answer to a call, a defrost that becomes due, and the end of heating. -/
namespace Sys2Proof.Machine

theorem Arbiter.limit_of_none {a : Arbiter} (h : a.pendingBudget = none) : a.limit = a.budget := by
  simp [Arbiter.limit, h]

/-- A release's check of the pending budget, in one form (R162, R164). -/
theorem Arbiter.released_eq (a : Arbiter) (g : GrantTable) : ({ a with table := g } : Arbiter).applyPending = a.released g := by
  cases h : a.pendingBudget with
  | none => simp [Arbiter.applyPending, Arbiter.released, Arbiter.limit, h]
  | some p =>
    simp only [Arbiter.applyPending, Arbiter.released, Arbiter.limit, h, Option.getD_some]
    split <;> rfl

/-- A release or withdrawal of an entry that is not IDLE (R162). -/
theorem State.giveUp_eq {ev : State → State} {c : Consumer} {s : State} (h : s.arbiter.table.entry c ≠ .idle) :
    s.giveUp ev c = ev { s with arbiter := s.arbiter.released (s.arbiter.table.setEntry c .idle) } := by
  unfold State.giveUp
  split
  · contradiction
  · simp only [State.checkPending, State.setEntry, ← Arbiter.released_eq]

/-- A request of an IDLE entry (R159). -/
theorem State.request_eq {ev : State → State} {c : Consumer} {d : Nat} {s : State}
    (h : s.arbiter.table.entry c = .idle) : s.request ev c d = ev (s.setEntry c (.waiting d)) := by
  simp [State.request, h]

theorem State.defrostGoesOn_eq {s : State} (h : s.arbiter.table.defrost = .idle) :
    s.defrostGoesOn State.evaluate = s.defrostAsking.evaluate := State.request_eq (c := .defrost) h

theorem State.withdrawCompressor_eq {s : State} (h : s.arbiter.table.compressor ≠ .idle) :
    s.withdrawCompressor State.evaluate = s.compressorWithdrawn.evaluate := State.giveUp_eq (c := .compressor) h

theorem State.requestCompressor_eq {s : State} (h : s.arbiter.table.compressor = .idle) :
    s.requestCompressor State.evaluate = s.compressorAsking.evaluate := State.request_eq (c := .compressor) h

theorem State.stopCompressor_stops (v : State) : v.CompressorStops (v.stopCompressor State.evaluate) := by
  intro h w hw
  have e : (v.setCooling v.cooling.stopped).giveUp State.evaluate .compressor = w :=
    (State.giveUp_eq (c := .compressor) (s := v.setCooling v.cooling.stopped) h).trans hw.symm
  unfold State.stopCompressor
  rw [e]
  refine ⟨fun n => ?_, fun n i => ?_⟩
  · simp [n]
  · simp [n, State.defrostGoesOn_eq i]

theorem State.updateCompressor_answers (v : State) : v.CompressorAnswers (v.updateCompressor State.evaluate) := by
  intro called wanted hw hc
  have hb : v.cooling.calledToRun = true ↔ called := by
    rw [hc, hw]
    simp [Cooling.calledToRun]
  have hn : (v.cooling.call && v.cooling.settings.enabled) = true ↔ wanted := by
    rw [hw]
    simp
  refine ⟨fun h => ?_, fun h n => ?_, fun h n i => ?_, fun h n => ?_, fun h n i => ?_, fun h => ⟨fun n => ?_, fun n m => ?_⟩⟩
  · simp [State.updateCompressor, h]
  · simp [State.updateCompressor, h, mt hb.mp n]
  · simp [State.updateCompressor, h, hb.mpr n, State.requestCompressor_eq i]
  · simp [State.updateCompressor, h, hb.mpr n]
  · simp [State.updateCompressor, h, mt hb.mp n, State.withdrawCompressor_eq i]
  · have k : (!(v.cooling.call && v.cooling.settings.enabled) && v.cooling.minimumRun.isNone) = false := by
      rcases n with n | n
      · simp [hn.mpr n]
      · cases e : v.cooling.minimumRun
        · contradiction
        · simp
    rcases h with h | h <;> simp only [State.updateCompressor, h, k] <;> rfl
  · have k : (!(v.cooling.call && v.cooling.settings.enabled) && v.cooling.minimumRun.isNone) = true := by
      simp [m, Bool.eq_false_iff.mpr (mt hn.mp n)]
    have e : v.updateCompressor State.evaluate = v.stopCompressor State.evaluate := by
      rcases h with h | h <;> simp only [State.updateCompressor, h, k] <;> rfl
    rw [e]
    exact v.stopCompressor_stops

theorem State.setCall_taken (s : State) (call : Bool) : s.CallTaken call (s.setCall State.evaluate call) := by
  refine ⟨fun h => ?_, fun h => ?_⟩
  · simp [State.setCall, h]
  · simp only [State.setCall, h, if_false]
    exact State.updateCompressor_answers _

theorem State.defrostDue_due {v : State} (n : v.cooling.defrost = .none) : v.DefrostDue (v.defrostDue State.evaluate) := by
  intro p hp
  have e : v.setCooling { v.cooling with defrost := .pending, defrostTimer := 0 } = p := hp.symm
  have c : p.cooling.compressor = v.cooling.compressor := by rw [hp]
  have m : p.cooling.minimumRun = v.cooling.minimumRun := by rw [hp]
  have i : p.arbiter = v.arbiter := by rw [hp]
  simp only [State.defrostDue, n, if_true, e, c]
  refine ⟨fun h j => ?_, fun h j w hw d => ?_, fun h => ⟨fun k => ?_, fun k => ?_⟩⟩
  · rw [← i] at j
    rcases h with h | h <;> simp only [h, State.defrostGoesOn_eq j]
  · rw [← i] at j
    simp only [h, State.withdrawCompressor_eq j, ← hw, State.defrostGoesOn_eq d]
  · rw [← m] at k
    cases f : p.cooling.minimumRun
    · contradiction
    · rcases h with h | h <;> simp [h]
  · rw [← m] at k
    rcases h with h | h
    · simpa [h, k] using p.stopCompressor_stops
    · simpa [h, k] using p.stopCompressor_stops

theorem State.heatingEnds_ends (x : State) : x.HeatingEnds (x.heatingEnds State.evaluate) := by
  intro h
  have e : (x.setCooling
        { x.cooling with defrost := .dripping, drip := some (Timer.start x.cooling.settings.dripMs) }).giveUp
        State.evaluate .defrost = x.heatingEnded.evaluate := 
    State.giveUp_eq (c := .defrost)
      (s := x.setCooling
        { x.cooling with defrost := .dripping, drip := some (Timer.start x.cooling.settings.dripMs) }) h
  refine ⟨fun d => ?_, fun d => ?_⟩
  · simp only [State.heatingEnds, e]
    exact if_neg (by simp only [CoolingSettings.dripMs]; omega)
  · have q : x.heatingEnds State.evaluate = x.heatingEnded.evaluate.dripEnds State.evaluate := by
      simp only [State.heatingEnds, e]
      simp [CoolingSettings.dripMs, d]
    rw [q]
    exact State.updateCompressor_answers _

end Sys2Proof.Machine
end

