-- ==== Sys2Proof/Laws/Kept.lean ====
section
/-! SUPPORT. What an evaluation of the Budget Arbiter, and every act of an owner within it, leaves as it is: the
settings, the coin slot, the supply, the image, the port but for flags that become set, and the waiting commands. -/
namespace Sys2Proof.Machine

namespace State.Kept

theorem refl (s : State) : s.Kept s := by constructor <;> simp

theorem trans {s t u : State} (h : s.Kept t) (k : t.Kept u) : s.Kept u := by
  constructor <;> try first
    | exact k.windows.trans h.windows | exact k.coins.trans h.coins | exact k.machine.trans h.machine
    | exact k.supply.trans h.supply | exact k.image.trans h.image | exact k.pending.trans h.pending
    | exact k.settings.trans h.settings | exact k.cabinet.trans h.cabinet | exact k.coil.trans h.coil
    | exact k.call.trans h.call | exact k.fallback.trans h.fallback | exact k.hold.trans h.hold
    | exact k.holdTimer.trans h.holdTimer | exact k.probes.trans h.probes | exact k.cassette.trans h.cassette
    | exact k.contactFirst.trans h.contactFirst | exact k.contactSecond.trans h.contactSecond
    | exact k.cassetteCode.trans h.cassetteCode | exact k.payoutDemand.trans h.payoutDemand
    | exact k.startDemand.trans h.startDemand | exact k.runDemand.trans h.runDemand
    | exact k.defrostDemand.trans h.defrostDemand | exact k.fair.trans h.fair
    | exact k.releaseMode.trans h.releaseMode | exact k.reply.trans h.reply | exact k.sdo.trans h.sdo
    | exact k.mask.trans h.mask | exact k.link.trans h.link
  rw [← k.flags, ← h.flags]
  simp [BitVec.or_assoc]

end State.Kept

/-! ### The plain updates -/

theorem GrantTable.setEntry_cases (g : GrantTable) (c : Consumer) (e : Entry) :
    (g.setEntry c e).compressorRun = g.compressorRun := by cases c <;> rfl

theorem State.kept_setFlag (f : Flag) (s : State) : s.Kept (s.setFlag f) := by
  constructor <;> first | rfl | (rw [State.setFlag_port, BitVec.or_comm, ← BitVec.or_assoc, BitVec.or_self])
theorem State.kept_setFlagIf (c : Bool) (f : Flag) (s : State) : s.Kept (s.setFlagIf c f) := by
  cases c
  · exact .refl s
  · exact s.kept_setFlag f
theorem State.kept_setLane (l : LaneNo) (r : LaneRecord) (s : State) : s.Kept (s.setLane l r) := by
  constructor <;> first | rfl | simp
theorem State.kept_updateLane (l : LaneNo) (f : FittedLane → FittedLane) (s : State) : s.Kept (s.updateLane l f) :=
  s.kept_setLane l _
theorem State.kept_dropReport (l : LaneNo) (s : State) : s.Kept (s.dropReport l) := s.kept_updateLane l _
theorem State.kept_emptyReport (l : LaneNo) (s : State) : s.Kept (s.emptyReport l) := s.kept_updateLane l _
theorem State.kept_positionReport (l : LaneNo) (p : Position) (s : State) : s.Kept (s.positionReport l p) :=
  s.kept_updateLane l _
theorem State.kept_addFaulted (n : Nat) (s : State) : s.Kept (s.addFaulted n) := by
  constructor <;> first | rfl | simp
theorem State.kept_driveFaultReport (l : LaneNo) (k : FaultCause) (s : State) : s.Kept (s.driveFaultReport l k) := by
  unfold State.driveFaultReport
  split
  · exact .refl s
  · exact ((s.kept_setLane l _).trans (State.kept_addFaulted _ _)).trans (State.kept_setFlag _ _)
theorem State.kept_setTube (t : TubeNo) (r : Tube) (s : State) : s.Kept (s.setTube t r) := by
  constructor <;> first | rfl | simp
theorem State.kept_mapTubes (f : Tube → Tube) (s : State) : s.Kept (s.mapTubes f) := by
  constructor <;> first | rfl | simp
theorem State.kept_evaluateExact (s : State) : s.Kept s.evaluateExact := by
  refine .trans ?_ (State.kept_setFlagIf _ _ _)
  constructor <;> first | rfl | simp
theorem State.kept_releaseCommitments (s : State) : s.Kept s.releaseCommitments :=
  (s.kept_mapTubes _).trans (State.kept_evaluateExact _)
theorem State.kept_commitPlan (p : Vector Nat 6) (s : State) : s.Kept (s.commitPlan p) := by
  refine .trans ?_ (State.kept_evaluateExact _)
  constructor <;> first | rfl | simp
theorem State.kept_withSession (c : Session) (s : State) : s.Kept { s with session := c } := by
  constructor <;> first | rfl | simp
theorem State.kept_withPayout (p : PayoutEngine) (s : State) : s.Kept { s with payout := p } := by
  constructor <;> first | rfl | simp
theorem State.kept_withVend (v : VendEngine) (s : State) : s.Kept { s with vend := v } := by
  constructor <;> first | rfl | simp
theorem State.kept_withDrive (d : DriveMatrix) (s : State) : s.Kept { s with drive := d } := by
  constructor <;> first | rfl | simp
theorem State.kept_withTable (g : GrantTable) (s : State) :
    s.Kept { s with arbiter := { s.arbiter with table := g } } := by
  constructor <;> first | rfl | simp
theorem State.kept_idleSession (s : State) : s.Kept s.idleSession := s.kept_withSession _
theorem State.kept_openSession (s : State) : s.Kept s.openSession := s.kept_withSession _
theorem State.kept_openOrIdle (s : State) : s.Kept s.openOrIdle := by
  unfold State.openOrIdle
  split
  · exact s.kept_openSession
  · exact s.kept_idleSession
theorem State.kept_clearCancel (s : State) : s.Kept s.clearCancel := s.kept_withSession _
theorem State.kept_sellEscrow (s : State) : s.Kept s.sellEscrow := s.kept_withSession _
theorem State.kept_returnEscrow (s : State) : s.Kept s.returnEscrow := s.kept_withSession _
theorem State.kept_payCoinCredit (n : Nat) (s : State) : s.Kept (s.payCoinCredit n) := s.kept_withSession _
theorem State.kept_settle (s : State) : s.Kept s.settle := by
  unfold State.settle
  split
  · exact .refl s
  · exact (s.kept_withSession _).trans (State.kept_setFlag _ _)
theorem State.kept_sessionPayoutEnd (s : State) : s.Kept s.sessionPayoutEnd := by
  unfold State.sessionPayoutEnd
  split
  · exact s.kept_idleSession
  · exact s.kept_openSession
theorem State.kept_setOrder (o : Option Order) (s : State) : s.Kept (s.setOrder o) := s.kept_withPayout _
theorem State.kept_setPayoutRecord (r : PayoutRecord) (s : State) : s.Kept (s.setPayoutRecord r) := s.kept_withPayout _
theorem State.kept_pulse (o : Order) (t : TubeNo) (b : Bool) (s : State) : s.Kept (s.pulse o t b) := s.kept_withPayout _
theorem State.kept_mapAwaited (f : Awaited → Awaited) (s : State) : s.Kept (s.mapAwaited f) := s.kept_setOrder _
theorem State.kept_limitOvertaken (b : Bool) (s : State) : s.Kept (s.limitOvertaken b) := by
  cases b
  · exact .refl s
  · exact s.kept_mapAwaited _
theorem State.kept_pulsedAfterFault (b : Bool) (s : State) : s.Kept (s.pulsedAfterFault b) := by
  cases b
  · exact .refl s
  · exact s.kept_mapAwaited _
theorem State.kept_pulseNext (o : Order) (s : State) : s.Kept (s.pulseNext o) := by
  unfold State.pulseNext
  split
  · exact s.kept_pulse o _ false
  · exact s.kept_setOrder _
theorem State.kept_setVend (c : Option VendContext) (s : State) : s.Kept (s.setVend c) := s.kept_withVend _
theorem State.kept_setEntry (c : Consumer) (e : Entry) (s : State) : s.Kept (s.setEntry c e) := s.kept_withTable _
theorem State.kept_checkPending (s : State) : s.Kept s.checkPending := by
  unfold State.checkPending Arbiter.applyPending
  split
  · split
    · constructor <;> first | rfl | simp
    · exact .refl s
  · exact .refl s
theorem State.kept_recordDrop (s : State) : s.Kept s.recordDrop := by
  unfold State.recordDrop
  split
  · exact .refl s
  · dsimp only
    split
    · exact ((s.kept_setVend _).trans (State.kept_dropReport _ _)).trans (State.kept_sellEscrow _)
    · exact (s.kept_setVend _).trans (State.kept_dropReport _ _)

/-- A change of the Cooling Controller that keeps its settings, channels, call, fallback and hold. -/
theorem State.kept_setCooling (c : Cooling) (s : State) (h1 : c.settings = s.cooling.settings)
    (h2 : c.cabinet = s.cooling.cabinet) (h3 : c.coil = s.cooling.coil) (h4 : c.call = s.cooling.call)
    (h5 : c.fallback = s.cooling.fallback) (h6 : c.hold = s.cooling.hold) (h7 : c.holdTimer = s.cooling.holdTimer) :
    s.Kept (s.setCooling c) := by
  constructor <;> first | rfl | simp [h1, h2, h3, h4, h5, h6, h7]

/-! ### The acts that may make an evaluation -/

section
variable {ev : State → State} (hev : ∀ s : State, s.Kept (ev s))
include hev

theorem State.kept_request (c : Consumer) (d : Nat) (s : State) : s.Kept (s.request ev c d) := by
  unfold State.request
  split
  · exact (s.kept_setEntry c _).trans (hev _)
  · exact .refl s

theorem State.kept_giveUp (c : Consumer) (s : State) : s.Kept (s.giveUp ev c) := by
  unfold State.giveUp
  split
  · exact .refl s
  · exact ((s.kept_setEntry c _).trans (State.kept_checkPending _)).trans (hev _)

theorem State.kept_reduceCompressor (s : State) : s.Kept (s.reduceCompressor ev) := by
  unfold State.reduceCompressor
  split
  · exact ((s.kept_setEntry _ _).trans (State.kept_checkPending _)).trans (hev _)
  · exact .refl s

theorem State.kept_finishOrder (k : PayoutCause) (s : State) : s.Kept (s.finishOrder ev k) := by
  unfold State.finishOrder
  split
  · exact .refl s
  · refine .trans ?_ (State.kept_setOrder none _)
    split
    · refine .trans ?_ (State.kept_sessionPayoutEnd _)
      refine .trans ?_ (State.kept_setFlagIf _ _ _)
      refine .trans ?_ (State.kept_setFlag _ _)
      refine .trans ?_ (State.kept_setPayoutRecord _ _)
      refine .trans ?_ (State.kept_giveUp hev _ _)
      exact (State.kept_setOrder _ _).trans (State.kept_releaseCommitments _)
    · refine .trans ?_ (State.kept_setFlagIf _ _ _)
      refine .trans ?_ (State.kept_setFlag _ _)
      refine .trans ?_ (State.kept_setPayoutRecord _ _)
      refine .trans ?_ (State.kept_giveUp hev _ _)
      exact (State.kept_setOrder _ _).trans (State.kept_releaseCommitments _)

theorem State.kept_startOrder (o : Order) (s : State) : s.Kept (s.startOrder ev o) := by
  unfold State.startOrder
  split
  · exact (s.kept_setOrder _).trans (State.kept_request hev _ _ _)
  · exact (s.kept_setOrder _).trans (State.kept_finishOrder hev _ _)

theorem State.kept_createSessionOrder (s : State) : s.Kept (s.createSessionOrder ev) :=
  (s.kept_commitPlan _).trans (State.kept_startOrder hev _ _)

theorem State.kept_releaseHeld (s : State) : s.Kept (s.releaseHeld ev) := by
  unfold State.releaseHeld
  split
  · exact (s.kept_withPayout _).trans (State.kept_createSessionOrder hev _)
  · exact .refl s

theorem State.kept_endOrder (k : PayoutCause) (s : State) : s.Kept (s.endOrder ev k) := by
  unfold State.endOrder
  split
  · exact .refl s
  · exact (State.kept_finishOrder hev k s).trans (State.kept_releaseHeld hev _)

theorem State.kept_createDispenseOrder (t : TubeNo) (n : Nat) (s : State) : s.Kept (s.createDispenseOrder ev t n) :=
  (s.kept_commitPlan _).trans (State.kept_startOrder hev _ _)

theorem State.kept_replan (s : State) : s.Kept (s.replan ev) := by
  unfold State.replan
  split
  · exact .refl s
  · have h : ∀ p, s.Kept (s.releaseCommitments.commitPlan p) :=
      fun p => s.kept_releaseCommitments.trans (State.kept_commitPlan p _)
    dsimp only
    split
    · split
      · exact (h _).trans (State.kept_pulseNext _ _)
      · exact (h _).trans (State.kept_setOrder _ _)
    · exact ((h _).trans (State.kept_setOrder _ _)).trans (State.kept_endOrder hev _ _)

theorem State.kept_takeTrim (s : State) : s.Kept (s.takeTrim ev) := by
  unfold State.takeTrim
  split
  · exact .refl s
  · split
    · exact s.kept_setOrder _
    · exact State.kept_replan hev s

theorem State.kept_confirmPayout (s : State) : s.Kept (s.confirmPayout ev) := by
  unfold State.confirmPayout
  split
  · exact .refl s
  · split
    · exact .refl s
    · split
      · exact .refl s
      dsimp only
      refine .trans ?_ (State.kept_limitOvertaken _ _)
      have h : ∀ u : State, s.Kept u → ∀ o : Order, s.Kept
          (if o.replanDue then (u.setOrder (some o)).evaluateExact.replan ev
           else if planHoldsCoin o.plan then (u.setOrder (some o)).evaluateExact.pulseNext o
           else (u.setOrder (some o)).evaluateExact.endOrder ev o.ordinaryCause) := by
        intro u hu o
        have h' := (hu.trans (State.kept_setOrder (some o) u)).trans (State.kept_evaluateExact _)
        split
        · exact h'.trans (State.kept_replan hev _)
        · split
          · exact h'.trans (State.kept_pulseNext _ _)
          · exact h'.trans (State.kept_endOrder hev _ _)
      apply h
      split
      · exact (s.kept_setTube _ _).trans (State.kept_payCoinCredit _ _)
      · exact s.kept_setTube _ _

theorem State.kept_payoutLimit (s : State) : s.Kept (s.payoutLimit ev) := by
  unfold State.payoutLimit
  split
  · exact .refl s
  · split
    · exact .refl s
    · split
      · exact .refl s
      · split
        · exact (((((s.kept_setTube _ _).trans (State.kept_setFlag _ _)).trans (State.kept_evaluateExact _)).trans
            (State.kept_setOrder _ _)).trans (State.kept_replan hev _)).trans (State.kept_pulsedAfterFault _ _)
        · exact s.kept_pulse _ _ _

theorem State.kept_askPayout (s : State) : s.Kept (s.askPayout ev) := by
  unfold State.askPayout
  have h := s.kept_withSession { s.session with state := .paying, timer := none }
  dsimp only
  split
  · exact h.trans (State.kept_withPayout _ _)
  · exact h.trans (State.kept_createSessionOrder hev _)

theorem State.kept_payOrIdle (s : State) : s.Kept (s.payOrIdle ev) := by
  unfold State.payOrIdle
  split
  · exact State.kept_askPayout hev s
  · exact s.kept_idleSession

theorem State.kept_actCancel (b : Bool) (s : State) : s.Kept (s.actCancel ev b) := by
  unfold State.actCancel
  refine .trans ?_ (State.kept_payOrIdle hev _)
  split
  · exact .refl s
  · exact s.kept_settle

theorem State.kept_cancelOrStay (b : Bool) (s : State) : s.Kept (s.cancelOrStay ev b) := by
  unfold State.cancelOrStay
  split
  · exact s.kept_clearCancel.trans (State.kept_actCancel hev _ _)
  · exact s.kept_openOrIdle

theorem State.kept_sessionVendEnd (o : VendOutcome) (b : Bool) (s : State) : s.Kept (s.sessionVendEnd ev o b) := by
  unfold State.sessionVendEnd
  split
  · split
    · exact s.kept_clearCancel.trans (State.kept_actCancel hev _ _)
    · exact State.kept_cancelOrStay hev b s
  · exact s.kept_returnEscrow.trans (State.kept_cancelOrStay hev _ _)
  · exact s.kept_returnEscrow.trans (State.kept_cancelOrStay hev _ _)

theorem State.kept_endVend (o : VendOutcome) (r : Option VendReason) (s : State) : s.Kept (s.endVend ev o r) := by
  unfold State.endVend
  split
  · exact .refl s
  · have h : ∀ v : VendEngine, s.Kept (State.setFlag .vendDone { (s.setVend none).giveUp ev .vend with vend := v }) :=
      fun v => (((s.kept_setVend none).trans (State.kept_giveUp hev .vend _)).trans (State.kept_withVend v _)).trans
        (State.kept_setFlag .vendDone _)
    dsimp only
    split
    · exact (h _).trans (State.kept_sessionVendEnd hev _ _ _)
    · exact h _

theorem State.kept_endVendUnlessDrop (o : VendOutcome) (r : VendReason) (s : State) :
    s.Kept (s.endVendUnlessDrop ev o r) := by
  unfold State.endVendUnlessDrop
  split
  · exact .refl s
  · split <;> exact State.kept_endVend hev _ _ s

theorem State.kept_abortVend (s : State) : s.Kept (s.abortVend ev) := by
  unfold State.abortVend
  split
  · exact .refl s
  · split
    · exact .refl s
    · have h : ∀ (b : Bool) (l : LaneNo), s.Kept (if b then s.positionReport l .offHome else s) := by
        intro b l
        split
        · exact s.kept_positionReport _ _
        · exact .refl s
      dsimp only
      split
      · exact ((h _ _).trans (State.kept_setVend _ _)).trans (State.kept_endVendUnlessDrop hev _ _ _)
      · exact (h _ _).trans (State.kept_setVend _ _)

theorem State.kept_switchOn (b : Bool) (s : State) : s.Kept (s.switchOn ev b) := by
  unfold State.switchOn
  split
  · exact .refl s
  · split
    · exact .refl s
    · split
      · exact (s.kept_withDrive _).trans (State.kept_setVend _ _)
      · exact (s.kept_setVend _).trans (State.kept_abortVend hev _)

theorem State.kept_startOnNewLane (s : State) : s.Kept (s.startOnNewLane ev) := by
  unfold State.startOnNewLane
  split
  · exact .refl s
  · split
    · exact .refl s
    · exact State.kept_switchOn hev _ s

theorem State.kept_leaveLane (k : LeaveCause) (s : State) : s.Kept (s.leaveLane ev k) := by
  unfold State.leaveLane
  split
  · exact .refl s
  · split
    · exact (s.kept_setVend _).trans (State.kept_endVend hev _ _ _)
    · dsimp only
      split
      · exact (s.kept_setVend _).trans (State.kept_endVend hev _ _ _)
      · exact (s.kept_setVend _).trans (State.kept_startOnNewLane hev _)

theorem State.kept_leaveAfterWindow (k : LeaveCause) (s : State) : s.Kept (s.leaveAfterWindow ev k) := by
  unfold State.leaveAfterWindow
  split
  · exact .refl s
  · split
    · exact s.kept_setVend _
    · exact State.kept_leaveLane hev k s

theorem State.kept_startRun (b : Bool) (s : State) : s.Kept (s.startRun ev b) := by
  unfold State.startRun
  split
  · exact .refl s
  · split
    · exact .refl s
    · split
      · exact State.kept_leaveAfterWindow hev _ s
      · exact State.kept_switchOn hev _ s

theorem State.kept_vendGranted (s : State) : s.Kept (s.vendGranted ev) := by
  unfold State.vendGranted
  split
  · exact .refl s
  · split
    · split
      · exact .refl s
      · exact (s.kept_setVend _).trans (State.kept_startRun hev _ _)
    · exact .refl s

theorem State.kept_dropSensed (s : State) : s.Kept (s.dropSensed ev) := by
  unfold State.dropSensed
  split
  · exact .refl s
  · split
    · dsimp only
      split
      · exact s.kept_recordDrop.trans (State.kept_endVend hev _ _ _)
      · exact s.kept_recordDrop
    · exact .refl s

theorem State.kept_turnCompleted (s : State) : s.Kept (s.turnCompleted ev) := by
  unfold State.turnCompleted
  split
  · exact .refl s
  · split
    · exact State.kept_endVend hev _ _ s
    · split
      · exact s.kept_recordDrop.trans (State.kept_endVend hev _ _ _)
      · exact s.kept_setVend _

theorem State.kept_driveFailure (k : FaultCause) (s : State) : s.Kept (s.driveFailure ev k) := by
  unfold State.driveFailure
  split
  · exact .refl s
  · have h : ∀ c l, s.Kept ((s.setVend c).driveFaultReport l k) :=
      fun c l => (s.kept_setVend c).trans (State.kept_driveFaultReport l k _)
    dsimp only
    split
    · exact (h _ _).trans (State.kept_endVendUnlessDrop hev _ _ _)
    · exact (h _ _).trans (State.kept_leaveAfterWindow hev _ _)

theorem State.kept_stoppedAtHome (s : State) : s.Kept (s.stoppedAtHome ev) := by
  unfold State.stoppedAtHome
  split
  · exact .refl s
  · have h : ∀ c l, s.Kept ((s.setVend c).positionReport l .home) :=
      fun c l => (s.kept_setVend c).trans (State.kept_positionReport l _ _)
    dsimp only
    split
    · exact (h _ _).trans (State.kept_endVend hev _ _ _)
    · split
      · split
        · exact (h _ _).trans (State.kept_endVend hev _ _ _)
        · exact (h _ _).trans (State.kept_startRun hev _ _)
      · exact (h _ _).trans (State.kept_turnCompleted hev _)

theorem State.kept_stoppedCommanded (s : State) : s.Kept (s.stoppedCommanded ev) := by
  unfold State.stoppedCommanded
  split
  · exact .refl s
  · split
    · exact State.kept_driveFailure hev _ s
    · split
      · exact (s.kept_positionReport _ _).trans (State.kept_endVendUnlessDrop hev _ _ _)
      · exact State.kept_turnCompleted hev s

theorem State.kept_stopped (k : StopCause) (s : State) : s.Kept (s.stopped ev k) := by
  unfold State.stopped
  split
  · exact .refl s
  · refine .trans ?_ (State.kept_setVend _ _)
    cases k
    · exact (s.kept_setVend _).trans (State.kept_stoppedAtHome hev _)
    · exact (s.kept_setVend _).trans (State.kept_stoppedCommanded hev _)
    · exact (s.kept_setVend _).trans (State.kept_driveFailure hev _ _)
    · exact (s.kept_setVend _).trans (State.kept_driveFailure hev _ _)
    · exact (s.kept_setVend _).trans (State.kept_abortVend hev _)

theorem State.kept_switchOff (k : StopCause) (s : State) : s.Kept (s.switchOff ev k) := by
  unfold State.switchOff
  split
  · exact .refl s
  · exact ((s.kept_withDrive _).trans (State.kept_stopped hev _ _)).trans (State.kept_withDrive _ _)

theorem State.kept_takeHomeLevel (v : HomeLevel) (s : State) : s.Kept (s.takeHomeLevel ev v) := by
  unfold State.takeHomeLevel
  split
  · exact .refl s
  · split
    · exact .refl s
    · dsimp only
      split
      · exact s.kept_withDrive _
      · split
        · exact s.kept_withDrive _
        · unfold State.homeOpened
          split
          · exact s.kept_withDrive _
          · exact (s.kept_withDrive _).trans (State.kept_setVend _ _)
      · split
        · exact (s.kept_withDrive _).trans (State.kept_switchOff hev _ _)
        · exact s.kept_withDrive _

theorem State.kept_afterWindow (c : VendContext) (s : State) : s.Kept (s.afterWindow ev c) := by
  unfold State.afterWindow
  dsimp only
  split
  · exact (s.kept_setVend _).trans (State.kept_endVendUnlessDrop hev _ _ _)
  · split
    · exact (s.kept_setVend _).trans (State.kept_leaveLane hev _ _)
    · split
      · exact ((s.kept_setVend _).trans (State.kept_setVend _ _)).trans (State.kept_startRun hev _ _)
      · exact ((s.kept_setVend _).trans (State.kept_emptyReport _ _)).trans (State.kept_leaveLane hev _ _)

theorem State.kept_windowCloses (s : State) : s.Kept (s.windowCloses ev) := by
  unfold State.windowCloses
  split
  · exact .refl s
  · split
    · exact (State.kept_afterWindow hev _ s).trans (State.kept_setVend _ _)
    · exact .refl s

theorem State.kept_defrostGoesOn (s : State) : s.Kept (s.defrostGoesOn ev) :=
  (s.kept_setCooling { s.cooling with defrost := .paused } rfl rfl rfl rfl rfl rfl rfl).trans
    (State.kept_request hev .defrost s.arbiter.defrostDemand _)

theorem State.kept_stopCompressor (s : State) : s.Kept (s.stopCompressor ev) := by
  unfold State.stopCompressor
  dsimp only
  have h := (s.kept_setCooling s.cooling.stopped rfl rfl rfl rfl rfl rfl rfl).trans (State.kept_giveUp hev .compressor _)
  split
  · exact h.trans (State.kept_defrostGoesOn hev _)
  · exact h

theorem State.kept_withdrawCompressor (s : State) : s.Kept (s.withdrawCompressor ev) :=
  (s.kept_setCooling { s.cooling with compressor := .offIdle } rfl rfl rfl rfl rfl rfl rfl).trans
    (State.kept_giveUp hev .compressor _)

theorem State.kept_requestCompressor (s : State) : s.Kept (s.requestCompressor ev) :=
  ((s.kept_setCooling { s.cooling with compressor := .waitBudget } rfl rfl rfl rfl rfl rfl rfl).trans
    (State.kept_withTable { s.arbiter.table with compressorRun := s.arbiter.runDemand } _)).trans
    (State.kept_request hev .compressor s.arbiter.startDemand _)

theorem State.kept_updateCompressor (s : State) : s.Kept (s.updateCompressor ev) := by
  unfold State.updateCompressor
  split
  · exact .refl s
  · split
    · exact State.kept_requestCompressor hev s
    · exact .refl s
  · split
    · exact .refl s
    · exact State.kept_withdrawCompressor hev s
  · split
    · exact State.kept_stopCompressor hev s
    · exact .refl s
  · split
    · exact State.kept_stopCompressor hev s
    · exact .refl s

omit hev in
theorem State.kept_compressorGranted (s : State) : s.Kept s.compressorGranted := by
  unfold State.compressorGranted
  split
  · exact s.kept_setCooling _ rfl rfl rfl rfl rfl rfl rfl
  · exact .refl s

theorem State.kept_yieldCompressor (s : State) : s.Kept (s.yieldCompressor ev) := by
  unfold State.yieldCompressor
  split
  · split
    · exact State.kept_stopCompressor hev s
    · exact s.kept_setCooling _ rfl rfl rfl rfl rfl rfl rfl
  · exact s.kept_setCooling _ rfl rfl rfl rfl rfl rfl rfl
  · exact .refl s

theorem State.kept_revokeCompressor (s : State) : s.Kept (s.revokeCompressor ev) := by
  unfold State.revokeCompressor
  split
  · exact State.kept_stopCompressor hev s
  · exact .refl s

theorem State.kept_minimumRunExpires (s : State) : s.Kept (s.minimumRunExpires ev) := by
  unfold State.minimumRunExpires
  split
  · dsimp only
    have h := s.kept_setCooling { s.cooling with minimumRun := none, yieldHeld := false } rfl rfl rfl rfl rfl rfl rfl
    split
    · exact h.trans (State.kept_stopCompressor hev _)
    · exact h
  · exact .refl s

theorem State.kept_defrostDue (s : State) : s.Kept (s.defrostDue ev) := by
  unfold State.defrostDue
  split
  · dsimp only
    have h := s.kept_setCooling { s.cooling with defrost := .pending, defrostTimer := 0 } rfl rfl rfl rfl rfl rfl rfl
    split
    · exact h.trans (State.kept_defrostGoesOn hev _)
    · exact h.trans (State.kept_defrostGoesOn hev _)
    · exact (h.trans (State.kept_withdrawCompressor hev _)).trans (State.kept_defrostGoesOn hev _)
    · split
      · exact h.trans (State.kept_stopCompressor hev _)
      · exact h
    · split
      · exact h.trans (State.kept_stopCompressor hev _)
      · exact h
  · exact .refl s

theorem State.kept_checkDefrostInterval (s : State) : s.Kept (s.checkDefrostInterval ev) := by
  unfold State.checkDefrostInterval
  split
  · exact State.kept_defrostDue hev s
  · exact .refl s

theorem State.kept_dripEnds (s : State) : s.Kept (s.dripEnds ev) :=
  (s.kept_setCooling { s.cooling with defrost := .none, drip := none, accumulatedRun := 0 }
    rfl rfl rfl rfl rfl rfl rfl).trans (State.kept_updateCompressor hev _)

theorem State.kept_heatingEnds (s : State) : s.Kept (s.heatingEnds ev) := by
  unfold State.heatingEnds
  dsimp only
  have h := (s.kept_setCooling
    { s.cooling with defrost := .dripping, drip := some (Timer.start s.cooling.settings.dripMs) }
    rfl rfl rfl rfl rfl rfl rfl).trans (State.kept_giveUp hev .defrost _)
  split
  · exact h.trans (State.kept_dripEnds hev _)
  · exact h

theorem State.kept_defrostGranted (s : State) : s.Kept (s.defrostGranted ev) := by
  unfold State.defrostGranted
  split
  · split
    · exact State.kept_heatingEnds hev s
    · exact s.kept_setCooling _ rfl rfl rfl rfl rfl rfl rfl
  · exact .refl s

theorem State.kept_yieldDefrost (s : State) : s.Kept (s.yieldDefrost ev) := by
  unfold State.yieldDefrost
  split
  · refine .trans ?_ (State.kept_request hev _ _ _)
    refine .trans ?_ (State.kept_giveUp hev _ _)
    exact s.kept_setCooling _ rfl rfl rfl rfl rfl rfl rfl
  · exact .refl s

omit hev in
theorem State.kept_payoutGranted (s : State) : s.Kept s.payoutGranted := by
  unfold State.payoutGranted
  split
  · exact .refl s
  · split
    · exact State.kept_pulseNext _ _
    · exact .refl s

theorem State.kept_tellGranted (c : Consumer) (s : State) : s.Kept (s.tellGranted ev c) := by
  cases c
  · exact s.kept_payoutGranted
  · exact State.kept_vendGranted hev s
  · exact s.kept_compressorGranted
  · exact State.kept_defrostGranted hev s

theorem State.kept_tellAll (cs : List Consumer) (s : State) : s.Kept (State.tellAll ev cs s) := by
  induction cs generalizing s with
  | nil => exact .refl s
  | cons c cs ih => exact (State.kept_tellGranted hev c s).trans (ih _)

theorem State.kept_sendYields (g : GrantTable) (s : State) : s.Kept (s.sendYields ev g) := by
  unfold State.sendYields
  split
  · dsimp only
    have h : s.Kept (if g.compressor.isGranted then s.yieldCompressor ev else s) := by
      split
      · exact State.kept_yieldCompressor hev s
      · exact .refl s
    split
    · exact h.trans (State.kept_yieldDefrost hev _)
    · exact h
  · exact .refl s

theorem State.kept_evaluateOnce (s : State) : s.Kept (s.evaluateOnce ev) := by
  unfold State.evaluateOnce
  split
  · exact .refl s
  · exact ((s.kept_withTable _).trans (State.kept_tellAll hev _ _)).trans (State.kept_sendYields hev _ _)

end

theorem State.kept_evaluateDepth (n : Nat) (s : State) : s.Kept (State.evaluateDepth n s) := by
  induction n generalizing s with
  | zero => exact .refl s
  | succ n ih => exact State.kept_evaluateOnce ih s

/-- What an evaluation leaves as it is. -/
theorem State.kept_evaluate (s : State) : s.Kept s.evaluate := s.kept_evaluateDepth 32

end Sys2Proof.Machine
end

