-- ==== Sys2Proof/Laws/Memory.lean ====
section
/-! SUPPORT. The serial memory: every operation keeps its canonical form, and a byte read after a write is the byte
written where one was, and the byte that stood there elsewhere. -/
namespace Sys2Proof.Machine

/-- The canonical form, one cell at a time: the cell is not erased, lies below every later one, and the rest is in the
form. -/
theorem Memory.wf_cons (c : Host.Cell) (m : List Host.Cell) :
    Memory.wf (c :: m) = true ↔ c.2 ≠ Memory.erased ∧ (∀ d ∈ m, c.1 < d.1) ∧ Memory.wf m = true := by
  induction m generalizing c with
  | nil => simp [Memory.wf]
  | cons d m ih =>
    simp only [Memory.wf, Bool.and_eq_true, decide_eq_true_eq, bne_iff_ne, List.mem_cons, forall_eq_or_imp]
    constructor
    · rintro ⟨⟨h1, h2⟩, h3⟩
      have h := (ih d).mp h3
      exact ⟨h2, ⟨h1, fun e he => Nat.lt_trans h1 (h.2.1 e he)⟩, h3⟩
    · rintro ⟨h2, ⟨h1, _⟩, h3⟩
      exact ⟨⟨h1, h2⟩, h3⟩

theorem Memory.wf_append (m n : List Host.Cell) (hm : Memory.wf m = true) (hn : Memory.wf n = true)
    (h : ∀ c ∈ m, ∀ d ∈ n, c.1 < d.1) : Memory.wf (m ++ n) = true := by
  induction m with
  | nil => exact hn
  | cons c m ih =>
    rw [List.cons_append, Memory.wf_cons]
    obtain ⟨h1, h2, h3⟩ := (Memory.wf_cons c m).mp hm
    refine ⟨h1, fun d hd => ?_, ih h3 fun e he d hd => h e (List.mem_cons_of_mem _ he) d hd⟩
    rcases List.mem_append.mp hd with hd | hd
    · exact h2 d hd
    · exact h c (List.mem_cons_self ..) d hd

theorem Memory.wf_filter (p : Host.Cell → Bool) (m : List Host.Cell) (hm : Memory.wf m = true) :
    Memory.wf (m.filter p) = true := by
  induction m with
  | nil => rfl
  | cons c m ih =>
    obtain ⟨h1, h2, h3⟩ := (Memory.wf_cons c m).mp hm
    rw [List.filter_cons]
    split
    · rw [Memory.wf_cons]
      exact ⟨h1, fun d hd => h2 d (List.mem_filter.mp hd).1, ih h3⟩
    · exact ih h3

theorem Memory.mem_cells (bs : List Byte) (a : Nat) (c : Host.Cell) (hc : c ∈ Memory.cells a bs) :
    a ≤ c.1 ∧ c.1 < a + bs.length := by
  induction bs generalizing a with
  | nil => cases hc
  | cons b bs ih =>
    unfold Memory.cells at hc
    simp only [List.length_cons]
    split at hc
    · have := ih (a + 1) hc
      omega
    · rcases List.mem_cons.mp hc with hc | hc
      · subst hc
        simp only
        omega
      · have := ih (a + 1) hc
        omega

theorem Memory.wf_cells (bs : List Byte) (a : Nat) : Memory.wf (Memory.cells a bs) = true := by
  induction bs generalizing a with
  | nil => rfl
  | cons b bs ih =>
    unfold Memory.cells
    split
    · exact ih _
    · rename_i hb
      rw [Memory.wf_cons]
      refine ⟨hb, fun d hd => ?_, ih _⟩
      have := Memory.mem_cells bs (a + 1) d hd
      simp only
      omega

/-- A write keeps the canonical form. -/
theorem Memory.wf_writeBlock (bs : List Byte) (m : List Host.Cell) (hm : Memory.wf m = true) :
    Memory.wf (Memory.writeBlock bs m) = true := by
  refine Memory.wf_append _ _ (Memory.wf_cells bs 0) (Memory.wf_filter _ m hm) fun c hc d hd => ?_
  have h1 := Memory.mem_cells bs 0 c hc
  have h2 := of_decide_eq_true (List.mem_filter.mp hd).2
  omega

/-- Every prefix of a store keeps the canonical form. -/
theorem Memory.wf_afterWrites (copy : List Byte) (n : Nat) (m : List Host.Cell) (hm : Memory.wf m = true) :
    Memory.wf (Memory.afterWrites copy n m) = true := by
  unfold Memory.afterWrites
  split <;> exact Memory.wf_writeBlock _ _ hm

/-- The memory after reset is in its canonical form. -/
theorem Memory.wf_reset : Memory.wf State.reset.image.memory = true := rfl

theorem Memory.read_append (m n : List Host.Cell) (a : Nat) :
    Memory.read (m ++ n) a = if (m.find? fun c => c.1 = a).isSome then Memory.read m a else Memory.read n a := by
  unfold Memory.read
  rw [List.find?_append]
  cases m.find? fun c => decide (c.1 = a) <;> rfl

theorem Memory.read_absent (m : List Host.Cell) (a : Nat) (h : ∀ c ∈ m, c.1 ≠ a) : Memory.read m a = Memory.erased := by
  unfold Memory.read
  rw [List.find?_eq_none.mpr fun c hc => by simpa using h c hc]

theorem Memory.read_cells (bs : List Byte) (a k : Nat) :
    Memory.read (Memory.cells a bs) (a + k) = bs.getD k Memory.erased := by
  induction bs generalizing a k with
  | nil => rfl
  | cons b bs ih =>
    unfold Memory.cells
    cases k with
    | zero =>
      split
      · rename_i hb
        rw [Memory.read_absent]
        · simpa using hb.symm
        · intro c hc
          have := Memory.mem_cells bs (a + 1) c hc
          omega
      · simp [Memory.read]
    | succ k =>
      have h : a + (k + 1) = a + 1 + k := by omega
      split
      · rw [h, ih]
        rfl
      · rw [h]
        have hne : ¬a = a + 1 + k := by omega
        have hfind : Memory.read ((a, b) :: Memory.cells (a + 1) bs) (a + 1 + k)
            = Memory.read (Memory.cells (a + 1) bs) (a + 1 + k) := by
          unfold Memory.read
          rw [List.find?_cons_of_neg (by simpa using hne)]
        rw [hfind, ih]
        rfl

/-- A byte read inside a block just written is the block's byte, and outside it the byte that stood there. -/
theorem Memory.read_writeBlock (bs : List Byte) (m : List Host.Cell) (a : Nat) :
    Memory.read (Memory.writeBlock bs m) a = if a < bs.length then bs.getD a Memory.erased else Memory.read m a := by
  unfold Memory.writeBlock
  rw [Memory.read_append]
  split
  · rename_i h
    obtain ⟨c, hc⟩ := Option.isSome_iff_exists.mp h
    have hmem := Memory.mem_cells bs 0 c (List.mem_of_find?_eq_some hc)
    have ha : c.1 = a := by simpa using List.find?_some hc
    rw [if_pos (by omega)]
    simpa using Memory.read_cells bs 0 a
  · rename_i h
    have hnone : ∀ c ∈ Memory.cells 0 bs, c.1 ≠ a := by
      intro c hc hca
      refine h (List.find?_isSome.mpr ⟨c, hc, by simpa using hca⟩)
    split
    · rename_i hlt
      have hz := Memory.read_absent _ a hnone
      have hr := Memory.read_cells bs 0 a
      rw [Nat.zero_add] at hr
      rw [← hr, hz]
      refine Memory.read_absent _ a fun c hc hca => ?_
      have := of_decide_eq_true (List.mem_filter.mp hc).2
      omega
    · rename_i hge
      unfold Memory.read
      rw [List.find?_filter]
      congr 2
      funext c
      by_cases hc : c.1 = a
      · simp [hc, Nat.le_of_not_lt hge]
      · simp [hc]

/-- The whole-block read agrees with reading byte by byte. -/
theorem Memory.readBlock_eq (n a : Nat) (m : List Host.Cell) (hm : Memory.wf m = true) (ha : ∀ c ∈ m, a ≤ c.1) :
    Memory.readBlock n a m = (List.range n).map fun k => Memory.read m (a + k) := by
  induction n generalizing a m with
  | zero => rfl
  | succ n ih =>
    rw [List.range_succ_eq_map, List.map_cons, List.map_map]
    cases m with
    | nil =>
      unfold Memory.readBlock
      rw [ih (a + 1) [] rfl (by simp)]
      rfl
    | cons c m =>
      obtain ⟨_, h2, h3⟩ := (Memory.wf_cons c m).mp hm
      unfold Memory.readBlock
      split
      · rename_i hc
        rw [ih (a + 1) m h3 (fun d hd => by have := h2 d hd; omega)]
        refine List.cons_eq_cons.mpr ⟨?_, List.map_congr_left fun k _ => ?_⟩
        · simp [Memory.read, hc]
        · unfold Memory.read
          simp only [Function.comp_apply]
          rw [List.find?_cons_of_neg (by simp; omega)]
          rw [show a + 1 + k = a + (k + 1) by omega]
      · rename_i hc
        have hlt : a < c.1 := by have := ha c (List.mem_cons_self ..); omega
        rw [ih (a + 1) (c :: m) hm (fun d hd => by
          rcases List.mem_cons.mp hd with hd | hd
          · subst hd; omega
          · have := h2 d hd; omega)]
        refine List.cons_eq_cons.mpr ⟨?_, List.map_congr_left fun k _ => ?_⟩
        · rw [Nat.add_zero, Memory.read_absent]
          intro d hd
          rcases List.mem_cons.mp hd with hd | hd
          · subst hd; omega
          · have := h2 d hd; omega
        · simp only [Function.comp_apply]
          rw [show a + 1 + k = a + (k + 1) by omega]

/-! ## The items of an image -/

/-- One of two choices is stored as the byte that its request carries for it. -/
@[simp] theorem choice2_byteOfBool (b : Bool) : choice2 (byteOfBool b) = some b := by cases b <;> rfl

/-- An alternate is stored as the byte that SET_LINK carries for it. -/
@[simp] theorem laneOrNone_laneByte (a : Option LaneNo) : laneOrNone (laneByte a) = some a := by
  cases a with
  | none => rfl
  | some l => exact (by decide : ∀ l : LaneNo, laneOrNone (laneByte (some l)) = some (some l)) l

/-- A lane's record is stored with every enumerated field naming one of its choices. -/
theorem imageLaneOf_enumerated (r : LaneRecord) : (imageLaneOf r).enumerated = true := by
  cases r with
  | none => rfl
  | some f =>
    have h : choice2 0x01#8 = some true := rfl
    simp [imageLaneOf, ImageLane.enumerated, FittedLane.params, laneConfigOf, laneClassOf, h]

end Sys2Proof.Machine
end

