-- ==== Sys2Proof/Tests/Slice0.lean ====
section
/-! SUPPORT. Tests: ill-formed commands are refused, frames written out from the spec's request table, at most two small
theorems per command on small states, and for each statement with hypotheses a state and operands that meet them. The
expected values are worked out by hand from the rules that the docstrings name. -/
namespace Sys2Proof.Tests
open Sys2Proof.Machine

/-! ## States -/

/-- The state after a command. -/
def after (c : Instr) (s : State) : State :=
  match exec c s with
  | .next t => t
  | .fault _ => s
  | .refused _ => s

/-- A command answered with a status: the status of the reply it leaves pending. -/
def status (c : Instr) (s : State) : Status := (after c s).port.pending.status

/-- The payload of the reply a command leaves pending. -/
def payload (c : Instr) (s : State) : List Byte := (after c s).port.pending.payload

/-- A counted HOMED lane at HOME, 30 units, 2 of 5 in stock, with lane 1 as its alternate. -/
def laneA : FittedLane :=
  { fault := none, price := 30, stock := .counted 2 5, laneClass := .ambient, motor := .homed .home,
    alternate := some 1, demand := 12, duty := 255 }

/-- An uncounted chilled TIMED lane. -/
def laneB : FittedLane :=
  { fault := none, price := 50, stock := .uncounted false, laneClass := .chilled, motor := .timed 500,
    alternate := none, demand := 40, duty := 64 }

/-- Lanes 0 and 1 fitted, and every window enabled for codes 0 to 9 from lane 0. -/
def lanes : LaneTable :=
  { records := ((Vector.replicate 80 none).set 0 (some laneA)).set 1 (some laneB)
    windows := Vector.replicate 8 { firstCode := 0, lastCode := 9, baseLane := 0, enabled := true }
    faultedCount := 0 }

/-- An OPEN session: 50 units of coins, 20 of cashless credit. -/
def credit : Session :=
  { coin := 50, cashless := 20, escrowCoin := 0, escrowCashless := 0, state := .opened, cancelPending := false,
    timer := none, record := { SessionRecord.initial with accepted := 50, cashlessGranted := 20 } }

/-- Twenty coins of 10 units. -/
def tubeA : Tube := { Tube.initial with value := 10, presence := .active, count := 20, capacity := 50, lowMark := 4 }

/-- A seated cassette with tube 1 fitted. -/
def purse : TubeTable :=
  { State.reset.tubes with
    tubes := (Vector.replicate 6 Tube.initial).set 1 tubeA
    cassette := .seated, contactFirst := true, contactSecond := true }

/-- Coin type 0: 10 units into tube 1; type 1: 50 units into the cashbox, change-dependent; type 2 inhibited. -/
def coinTable : Vector CoinEntry 16 :=
  (((State.reset.coins.table.set 0
    { value := 10, destination := .tube 1, inhibit := false, changeDependent := false }).set 1
    { value := 50, destination := .cashbox, inhibit := false, changeDependent := true }).set 2
    { value := 5, destination := .tube 2, inhibit := true, changeDependent := false })

/-- A machine ready to sell: the door closed, the session OPEN. -/
def shop : State :=
  { State.reset with
    lanes := lanes
    session := credit
    supply := { State.reset.supply with door := .closed }
    tubes := purse
    coins := { State.reset.coins with table := coinTable } }

/-- The same machine with its session IDLE. -/
def idleShop : State := { shop with session := State.reset.session }

/-- The same machine with its door open and its session IDLE. -/
def service : State := { idleShop with supply := State.reset.supply }

/-- QUIET. -/
def quiet : State := { idleShop with supply := { idleShop.supply with quiet := true } }

/-- A TEST_VEND of lane 0 that waits for its grant. -/
def waitingTest : State :=
  { service with
    vend := { service.vend with context := some (service.serviceContext .testVend 0) }
    arbiter := { service.arbiter with table := { service.arbiter.table with vend := .waiting 12 } } }

/-- A TEST_VEND of a lane that is turning. -/
def turning (l : LaneNo) (f : FittedLane) : State :=
  { service with
    vend :=
      { service.vend with
        context :=
          some (VendContext.underway { service.serviceContext .testVend l with budgetWait := none } false f.motor) }
    drive := { context := some (f.freshDrive l), marker := some l }
    arbiter := { service.arbiter with table := { service.arbiter.table with vend := .granted 12 12 } } }

/-- The drive of lane 0 after its home switch has opened, in a homing run or a turn. -/
def opened (homing : Bool) : State :=
  { turning 0 laneA with
    drive :=
      { context := some { laneA.freshDrive 0 with homeLevel := some .opened, homeOpened := true }, marker := some 0 }
    vend :=
      { service.vend with
        context :=
          some { VendContext.underway { service.serviceContext .testVend 0 with budgetWait := none } homing laneA.motor with
                 tStart := none } } }

/-- A TEST_VEND of lane 0 waiting in its window after the turn, with the given retries. -/
def inWindow (retries : Nat) (chain : List LaneNo) : State :=
  { turning 0 laneA with
    drive := { context := none, marker := none }
    vend :=
      { service.vend with
        context :=
          some { VendContext.underway { service.serviceContext .testVend 0 with budgetWait := none } false laneA.motor with
                 phase := .afterStop, window := .opened (some { elapsed := 0, limit := 1200 }), tStart := none
                 tCycle := none, retriesLeft := retries, chain := chain } } }

/-- The context of a TEST_VEND turning with drop sensing OFF, of the given lane. -/
def unsensed (l : LaneNo) (m : Motor) : VendContext :=
  let c := { service.serviceContext .testVend l with budgetWait := none }
  VendContext.underway { c with inForce := { c.inForce with dropSensing := false } } false m

/-- The lane's turn with drop sensing OFF. -/
def turningUnsensed (l : LaneNo) (f : FittedLane) : State :=
  { turning l f with vend := { service.vend with context := some (unsensed l f.motor) } }

/-- A coin of 10 units in transit to tube 1, or to the cashbox. -/
def inSlot (route : Route) : State :=
  { shop with
    coins :=
      { shop.coins with
        slot := some { type := 0, value := 10, route := route, timer := { elapsed := 0, limit := 300 } } } }

/-- A SESSION order paying 50 units from tube 1, with its first coin pulsed. -/
def paying (plan : Vector Nat 6) (retry : Bool) : State :=
  { shop with
    session := { credit with cashless := 0, state := .paying }
    tubes := { purse with tubes := purse.tubes.set 1 { tubeA with committed := plan[1] } }
    payout :=
      { shop.payout with
        order :=
          some
            { newOrder .session 50 none plan false with
              state := .paying
              awaited := some { tube := 1, retry := retry, timer := { elapsed := 0, limit := 250 } } } }
    arbiter := { shop.arbiter with table := { shop.arbiter.table with payout := .granted 8 8 } } }

/-- The plan of `n` coins from tube 1. -/
def plan1 (n : Nat) : Vector Nat 6 := (Vector.replicate 6 0).set 1 n

/-- A SESSION order that waits for its grant. -/
def waitingOrder : State :=
  { paying (plan1 5) false with
    payout :=
      { shop.payout with
        order :=
          some { newOrder .session 50 none (plan1 5) false with budgetWait := some { elapsed := 0, limit := 5000 } } }
    arbiter := { shop.arbiter with table := { shop.arbiter.table with payout := .waiting 8 } } }

/-- A cabinet channel in order, reading `t` tenths. -/
def reading (t : Int) : Channel := { Channel.initial with filtered := some t }

/-- The machine with its cooling replaced. -/
def withCooling (c : Cooling) : State := { idleShop with cooling := c }

/-- Cooling as reset leaves it. -/
def rest : Cooling := State.reset.cooling

/-- The compressor running under a grant, its minimum run not elapsed. -/
def runningCompressor : State :=
  { withCooling
      { rest with
        compressor := .running, minimumOff := none, minimumRun := some { elapsed := 0, limit := 120000 }, call := true
        cabinet := reading 60 } with
    arbiter :=
      { idleShop.arbiter with
        table := { idleShop.arbiter.table with compressor := .granted 45 18, compressorRun := 18 } } }

/-- A compressor start under a grant. -/
def startingCompressor : State :=
  { runningCompressor with
    cooling :=
      { runningCompressor.cooling with
        compressor := .starting, startInterval := some { elapsed := 3000, limit := 3000 } }
    arbiter :=
      { idleShop.arbiter with
        table := { idleShop.arbiter.table with compressor := .granted 45 45, compressorRun := 18 } } }

/-- A defrost heating under a grant. -/
def heating : State :=
  { withCooling { rest with defrost := .heating } with
    arbiter := { idleShop.arbiter with table := { idleShop.arbiter.table with defrost := .granted 25 25 } } }

/-- A defrost dripping, with the compressor resting or off and idle. -/
def dripping (c : CompressorState) (call : Bool) : State :=
  withCooling
    { rest with
      defrost := .dripping, drip := some { elapsed := 180000, limit := 180000 }, compressor := c, call := call
      minimumOff := if c = .offIdle then none else rest.minimumOff, accumulatedRun := 21600 }

/-- An inert part with the given marker. -/
def inert (valid : Bool) : State :=
  { shop with supply := { shop.supply with power := .inert, markerValid := valid } }

/-- A part that reads its image. -/
def loading : State :=
  { State.reset with
    supply := { State.reset.supply with power := .loading, markerValid := false }
    image := { State.reset.image with fitted := true } }

/-- What a start reads with the cassette out and the rail good. -/
def bareInputs : StartInputs :=
  { underAsserted := false, overAsserted := false, contactFirst := false, contactSecond := false, codePins := 0,
    lowCovered := Vector.replicate 6 false, fullCovered := Vector.replicate 6 false }

/-- The rail low. -/
def underRail : State := { idleShop with supply := { idleShop.supply with underLevel := true, underSeen := true } }

/-! ## Ill-formed commands are refused -/

/-- A frame of the right length is no FRAME_ERROR, nor is one of an unknown code; a part byte has fewer than 8 bits. -/
theorem test_wf_frameError :
    (Instr.frameError [0x31#8] 0).wf = false ∧ (Instr.frameError [0x99#8, 0x00#8] 0).wf = false ∧
      (Instr.frameError [0x31#8] 8).wf = false ∧ (Instr.frameError [0x31#8] 7).wf = true ∧
      (Instr.frameError [] 0).wf = true := by decide

/-- NOP and CANCEL name requests; 0x62 does not. -/
theorem test_wf_unknownRequest :
    (Instr.unknownRequest 0x00#8 0).wf = false ∧ (Instr.unknownRequest 0x31#8 0).wf = false ∧
      (Instr.unknownRequest 0x62#8 3).wf = true := by decide

/-- 19.0 V asserts nothing, below it the undervoltage comparator; 30.0 V asserts nothing (R166). -/
theorem test_wf_supplyEvent :
    (Instr.supplyEvent .under 19000).wf = false ∧ (Instr.supplyEvent .under 18999).wf = true ∧
      (Instr.supplyEvent .over 30000).wf = false ∧ (Instr.supplyEvent .over 30001).wf = true := by decide

/-- 20.0 V and 29.0 V clear nothing (R166). -/
theorem test_wf_supplyCleared :
    (Instr.supplyCleared .under 20000).wf = false ∧ (Instr.supplyCleared .under 20001).wf = true ∧
      (Instr.supplyCleared .over 29000).wf = false ∧ (Instr.supplyCleared .over 28999).wf = true := by decide

/-- The writes of a store are 1258 bytes and the marker byte again (R192, R194). -/
theorem test_wf_storeEnd : (Instr.storeEnd (some 5000)).wf = false ∧ (Instr.storeEnd (some 1257)).wf = true := by decide

/-! ## Frames, written out byte by byte from the request table of 10_the_command_port_and_attention.md -/

theorem test_frame_port :
    decodeFrame [0x02#8, 0x01#8, 0x00#8, 0x10#8] 0 = .ackAttention 0x010010#24 ∧
      decodeFrame [0x00#8, 0xAA#8] 0 = .nop 1 ∧ decodeFrame [0x01#8] 0 = .readAttention := by decide

theorem test_frame_lanes :
    decodeFrame [0x14#8, 0x1E#8, 0xFF#8] 0 = .restock 30#8 0xFF#8 ∧
      decodeFrame [0x12#8, 0x1E#8, 0x00#8, 0x78#8, 0x00#8, 0x08#8, 0x01#8, 0x01#8, 0x01#8, 0xF4#8, 0x0C#8, 0x00#8,
          0xFF#8] 0 =
        .setLane 30#8
          { price := 120#16, stockMode := 0#8, capacity := 8#8, laneClass := 1#8, motorKind := 1#8, runTime := 500#16,
            demand := 12#8, duty := 255#16 } ∧
      decodeFrame [0x17#8, 0x02#8, 0x01#8, 0x2C#8, 0x01#8, 0x35#8, 0x1E#8, 0x01#8] 0 =
        .setWindow 2#8 { firstCode := 300#16, lastCode := 309#16, baseLane := 30#8, enabled := 1#8 } := by decide

theorem test_frame_vend :
    decodeFrame [0x20#8, 0x01#8, 0x2C#8] 0 = .vend 300#16 ∧ decodeFrame [0x22#8, 0x05#8] 0 = .homeLane 5#8 := by decide

theorem test_frame_money :
    decodeFrame [0x30#8, 0x00#8, 0x64#8] 0 = .grantCashless 100#16 ∧
      decodeFrame [0x34#8, 0x03#8, 0x00#8, 0x32#8, 0xFF#8, 0x00#8, 0x01#8] 0 =
        .setCoinType 3#8 { value := 50#16, destination := 0xFF#8, inhibit := 0#8, changeDependent := 1#8 } ∧
      decodeFrame [0x35#8, 0x02#8, 0x00#8, 0x14#8, 0x3C#8, 0x08#8, 0x02#8] 0 =
        .setTube 2#8 { value := 20#16, capacity := 60#8, lowMark := 8#8, reserve := 2#8 } ∧
      decodeFrame [0x3A#8, 0x02#8, 0x0F#8] 0 = .dispense 2#8 15#8 := by decide

theorem test_frame_cooling_and_power :
    decodeFrame [0x50#8, 60#8, 8#8, 45#8, 18#8, 25#8, 0#8, 1#8] 0 =
        .setBudget { budget := 60#8, payoutDemand := 8#8, startDemand := 45#8, runDemand := 18#8, defrostDemand := 25#8,
                     fair := 0#8, releaseMode := 1#8 } ∧
      decodeFrame [0x40#8, 0xFF#8, 0xCE#8, 20#8, 30#8, 80#8, 30#8, 0#8, 180#8, 0#8, 120#8, 3#8, 6#8, 80#8, 20#8, 3#8,
          10#8, 20#8, 1#8] 0 =
        .setCooling { setpoint := 0xFFCE#16, differential := 20#8, setback := 30#8, holdLimit := 80#8, holdDelay := 30#8,
                      minimumOff := 180#16, minimumRun := 120#16, startInterval := 3#8, defrostInterval := 6#8,
                      termination := 80#8, maximumDefrost := 20#8, drip := 3#8, fallbackRun := 10#8, fallbackOff := 20#8,
                      enabled := 1#8 } ∧
      decodeFrame [0x55#8, 0x01#8] 0 = .readSupply 1#8 := by decide

/-- One byte too many, a part byte, and no whole byte are FRAME_ERRORs; a code of no request is not (R177). -/
theorem test_frame_judged :
    decodeFrame [0x61#8, 0x00#8] 0 = .frameError [0x61#8, 0x00#8] 0 ∧
      decodeFrame [0x00#8] 1 = .frameError [0x00#8] 1 ∧ decodeFrame [] 3 = .frameError [] 3 ∧
      decodeFrame [0x04#8, 0x00#8, 0x00#8] 0 = .unknownRequest 0x04#8 2 := by decide

/-! ## The command port -/

theorem test_nop : status (.nop 3) shop = .ok ∧ (after (.nop 3) shop).port.flags = 0#17 := by decide

/-- A FRAME_ERROR sets LINK, bit 16 (R177). -/
theorem test_frameError :
    status (.frameError [] 3) shop = .frameError ∧ (after (.frameError [] 3) shop).port.flags = 0x10000#17 := by decide

theorem test_unknownRequest :
    status (.unknownRequest 0x99#8 2) shop = .unknownRequest ∧
      (after (.unknownRequest 0x99#8 2) shop).port.flags = 0#17 := by decide

/-- The frame of three bytes shifts out the status and code of the reply before it, then 0x00 (R176). -/
theorem test_reply_shifts_out : (after (.vend 0#16) shop).port.sdo = [0x12#8, 0x00#8, 0x00#8] := by decide

theorem test_linkReset :
    status .linkReset (after (.nop 0) shop) = .noReply ∧ (after .linkReset shop).port.link = .held := by decide

theorem test_lrstNRelease : (after .lrstNRelease (after .linkReset shop)).port.link = .waitSelHigh := by decide

/-- VEND_DONE is bit 4, PAYOUT_DONE bit 5: the first set flag is 4 (R184). -/
theorem test_readAttention :
    payload .readAttention { shop with port := { shop.port with flags := 0x30#17, mask := 0x8#17 } } =
      [0x00#8, 0x00#8, 0x30#8, 0x00#8, 0x00#8, 0x08#8, 0x04#8, 0x00#8] := by decide

/-- SUPPLY cleared takes the seen flags with it (R185). -/
theorem test_ackAttention :
    let t := after (.ackAttention 0x000001#24) { underRail with port := { shop.port with flags := 0x11#17 } }
    t.port.flags = 0x10#17 ∧ t.supply.underSeen = false ∧ t.supply.underLevel = true := by decide

theorem test_setAttentionMask :
    (after (.setAttentionMask 0xFFFFFF#24) shop).port.mask = 0x1FFFF#17 := by decide

/-! ## The Lane Table -/

/-- Lane 0, 30 units, available, window 0 (R14). -/
theorem test_lookup :
    payload (.lookup 0#16) shop = [0x00#8, 0x00#8, 0x1E#8, 0x01#8, 0xFF#8, 0x00#8] ∧
      payload (.lookup 9#16) shop = [0x00#8, 0x09#8] ∧ status (.lookup 9#16) shop = .noSelection := by decide

theorem test_readLane :
    payload (.readLane 0#8) shop =
      [0x01#8, 0xFF#8, 0x00#8, 0x00#8, 0x1E#8, 0x00#8, 0x02#8, 0x05#8, 0xFF#8, 0x00#8, 0x00#8, 0xFF#8, 0xFF#8, 0x01#8,
       0x0C#8, 0x00#8, 0xFF#8, 0x00#8, 0x01#8, 0xFF#8, 0x00#8] := by decide

/-- A demand of 60 is clamped to 40, a duty of 0 is the default, and a capacity of 1 trims the stock (R16, R17). -/
theorem test_setLane :
    (after (.setLane 0#8
        { price := 30#16, stockMode := 0#8, capacity := 1#8, laneClass := 0#8, motorKind := 0#8, runTime := 0#16,
          demand := 60#8, duty := 0#16 }) shop).lane 0 =
      some { laneA with stock := .counted 1 1, demand := 40 } := by decide

theorem test_setLink :
    status (.setLink 1#8 1#8) shop = .badLink ∧
      (after (.setLink 1#8 0#8) shop).lane 1 = some { laneB with alternate := some 0 } := by decide

/-- FILL, and a count above the capacity (R19). -/
theorem test_restock :
    (after (.restock 0#8 0xFF#8) shop).lane 0 = some { laneA with stock := .counted 5 5 } ∧
      (after (.restock 0#8 99#8) shop).lane 0 = some { laneA with stock := .counted 5 5 } := by decide

theorem test_retireLane :
    (after (.retireLane 1#8) shop).lane 1 = none ∧
      (after (.retireLane 1#8) shop).lane 0 = some { laneA with alternate := none } := by decide

/-- A jammed lane returns to service OFF_HOME, and the count follows (R21). -/
theorem test_clearLaneFault :
    let jammed :=
      { shop with
        lanes :=
          { lanes with records := lanes.records.set 0 (some { laneA with fault := some .jam }), faultedCount := 1 } }
    (after (.clearLaneFault 0#8) jammed).lane 0 = some { laneA with motor := .homed .offHome } ∧
      (after (.clearLaneFault 0#8) jammed).lanes.faultedCount = 0 := by decide

theorem test_setWindow :
    (after (.setWindow 7#8 { firstCode := 999#16, lastCode := 999#16, baseLane := 79#8, enabled := 3#8 })
        shop).lanes.windows[7] =
      { firstCode := 999, lastCode := 999, baseLane := 79, enabled := true } := by decide

theorem test_readWindow :
    payload (.readWindow 7#8) shop = [0x00#8, 0x00#8, 0x00#8, 0x09#8, 0x00#8, 0x01#8] := by decide

/-! ## The vend -/

/-- Price 30, cashless 20 first, then 10 of the coins; chain lanes 0 and 1 (R121, R104). -/
theorem test_vend_accepted :
    payload (.vend 0#16) shop =
      [0x00#8, 0x00#8, 0x00#8, 0x1E#8, 0x00#8, 0x01#8, 0xFF#8, 0x00#8, 0x00#8, 0x0A#8, 0x00#8, 0x14#8] := by decide

/-- At a budget of 60 the demand of 12 is granted in the same step and lane 0 turns (R123, R161). -/
theorem test_vend_granted :
    (after (.vend 0#16) shop).arbiter.table.vend = .granted 12 12 ∧ (after (.vend 0#16) shop).drive.marker = some 0 := by
  decide

theorem test_testVend : status (.testVend 0#8) shop = .doorClosed ∧ status (.testVend 0#8) service = .ok := by decide

theorem test_homeLane :
    status (.homeLane 1#8) service = .outOfRange ∧
      ((after (.homeLane 0#8) service).vend.context.map (·.phase)) = some .homing := by decide

theorem test_readVendResult :
    payload .readVendResult shop =
      [0x00#8, 0xFF#8, 0xFF#8, 0x00#8, 0xFF#8, 0xFF#8, 0xFF#8, 0x00#8, 0x00#8, 0x00#8, 0x00#8, 0x00#8]
        ++ List.replicate 14 0x00#8 := by decide

/-- The budget wait runs out: FAILED, BUDGET (R122). -/
theorem test_vendBudgetWaitExpiry :
    ((after .vendBudgetWaitExpiry waitingTest).vend.result.map (·.reason)) = some (some .budget) := by decide

/-- A HOMED drive's start level OPEN reports HOME_OPENED (R28). -/
theorem test_startLevelTaken :
    ((after (.startLevelTaken .opened) (turning 0 laneA)).drive.context.map (·.homeOpened)) = some true := by decide

/-- The closed edge stops the lane at HOME (R29). -/
theorem test_homeLevelChange :
    (after (.homeLevelChange .closed) (opened false)).drive.context = none ∧
      ((after (.homeLevelChange .closed) (opened false)).vend.context.map (·.phase)) = some .afterStop := by decide

/-- 12 units of demand give a threshold of 2.4 A (R32, R33). -/
theorem test_driveCurrentChange :
    ((after (.driveCurrentChange 2401) (turning 0 laneA)).drive.context.map (·.stallDebounce)) =
        some (some { elapsed := 0, limit := 50 }) ∧
      ((after (.driveCurrentChange 2400) (turning 0 laneA)).drive.context.map (·.stallDebounce)) = some none := by decide

theorem test_stallDebounceExpiry :
    ((after .stallDebounceExpiry (after (.driveCurrentChange 2401) (turning 0 laneA))).lane 0) =
      some { laneA with fault := some .stall, motor := .homed .offHome } := by decide

/-- 49 mA is OPEN, 50 mA is not (R32, R34). -/
theorem test_openCheck :
    ((after (.openCheck 49) (turning 1 laneB)).lane 1) = some { laneB with fault := some .openCircuit } ∧
      (after (.openCheck 50) (turning 1 laneB)).port.flags = 0#17 := by decide

theorem test_tStartExpiry :
    ((after .tStartExpiry (turning 0 laneA)).lane 0) =
      some { laneA with fault := some .noStart, motor := .homed .offHome } := by decide

theorem test_tCycleExpiry :
    (after .tCycleExpiry (turning 0 laneA)).port.isSet .laneFault = true ∧
      (after .tCycleExpiry (turning 0 laneA)).lanes.faultedCount = 1 := by decide

theorem test_runTimeExpiry :
    ((after .runTimeExpiry (turning 1 laneB)).vend.context.map (·.window)) =
      some (.opened (some { elapsed := 0, limit := 1200 })) := by decide

/-- A drop lowers the stock by 1 and ends the operation VENDED (R128). -/
theorem test_dropSeen :
    (after .dropSeen (inWindow 0 [0])).lane 0 = some { laneA with stock := .counted 1 5 } ∧
      ((after .dropSeen (inWindow 0 [0])).vend.result.map (·.outcome)) = some .vended := by decide

/-- The last empty turn makes the lane EMPTY and the operation FAILED (R130, R132). -/
theorem test_dropWindowClose :
    (after .dropWindowClose (inWindow 0 [0])).lane 0 = some { laneA with stock := .counted 0 5 } ∧
      ((after .dropWindowClose (inWindow 1 [0])).vend.context.map (·.phase)) = some .turning := by decide

/-- A drop that arrives together with a close that is due is ignored, though the retry has a fresh window (R128). -/
theorem test_dropWindowClose_met :
    let s := inWindow 1 [0]
    let due := { s with vend := { s.vend with context := s.vend.context.map fun c =>
      { c with window := .opened (some { elapsed := 1200, limit := 1200 }) } } }
    let t := after .dropWindowClose due
    (t.vend.context.map (·.window)) = some (.opened none) ∧ (t.vend.context.map (·.afterClose)) = some true ∧
      after .dropSeen t = t ∧ (after .dropSeen (after .dropWindowClose s)).lane 0 = some { laneA with stock := .counted 1 5 } := by
  decide

/-- A stall that came together with the closed edge ends the lane's drive alone: with drop sensing OFF the alternate is
driven at once, and neither the edge nor the open check of the first drive is taken for it (R35). -/
theorem test_stallDebounceExpiry_met :
    let c : VendContext := { unsensed 0 laneA.motor with chain := [0, 1] }
    let f : FittedLane := { laneB with motor := .homed .home }
    let d := { laneA.freshDrive 0 with
               homeLevel := some .opened, homeOpened := true, stallDebounce := some { elapsed := 50, limit := 50 } }
    let s := { (turning 0 laneA).setLane 1 (some f) with
               vend := { service.vend with context := some c }, drive := { context := some d, marker := some 0 } }
    let t := after .stallDebounceExpiry s
    (t.drive.context.map fun e => (e.lane, e.edgeOver, e.checkOver, e.homeLevel)) = some (1, true, true, none) ∧
      after (.homeLevelChange .closed) t = t ∧ after (.openCheck 0) t = t ∧
      ((after (.startLevelTaken .closed) t).drive.context.map (·.homeLevel)) = some (some .closed) ∧
      (after (.openCheck 0) (after (.startLevelTaken .closed) t)).lane 1 =
        some { f with fault := some .openCircuit, motor := .homed .offHome } := by decide

/-! ## Money -/

/-- The ceiling is 2000 and 70 stand against it: 1930 of 65535 are granted (R100, R102). -/
theorem test_grantCashless :
    (after (.grantCashless 0xFFFF#16) shop).session.cashless = 1950 ∧
      payload (.grantCashless 0xFFFF#16) shop = [0xFF#8, 0xFF#8, 0x07#8, 0x8A#8, 0x07#8, 0xD0#8] := by decide

/-- CANCEL returns the cashless credit and pays the coins (R103, R109). -/
theorem test_cancel :
    (after .cancel shop).session.state = .paying ∧ (after .cancel shop).session.record.cashlessReturned = 20 ∧
      ((after .cancel shop).payout.order.map (·.plan)) = some (plan1 5) := by decide

theorem test_readSession : (payload .readSession shop).take 10 =
    [0x00#8, 0x32#8, 0x00#8, 0x14#8, 0x00#8, 0x00#8, 0x00#8, 0x00#8, 0x00#8, 0x46#8] := by decide

theorem test_sessionTimeoutExpiry :
    let s := { shop with session := { credit with timer := some { elapsed := 60000, limit := 60000 } } }
    (after .sessionTimeoutExpiry s).session.state = .opened ∧ (after .sessionTimeoutExpiry s).session.cashless = 0 := by
  decide

/-- A coin confirmed in the instant in which the timer runs out is activity: its expiry does not take place (R113). -/
theorem test_sessionTimeoutExpiry_met :
    let s := { inSlot .cashbox with session := { credit with timer := some { elapsed := 60000, limit := 60000 } } }
    (after .sessionTimeoutExpiry (after .acceptSensorPulse s)).session = (after .acceptSensorPulse s).session ∧
      (after .acceptSensorPulse s).session.coin = 60 := by decide

/-- A second activity of that instant does not bring the expiry back: a coin, then a refused VEND, which is activity too
(R112, R113). -/
theorem test_sessionTimeoutExpiry_met_twice :
    let s := { inSlot .cashbox with session := { credit with timer := some { elapsed := 60000, limit := 60000 } } }
    let t := after (.vend 9#16) (after .acceptSensorPulse s)
    t.port.pending.status = .noSelection ∧ t.session.timer ≠ none ∧
      (after .sessionTimeoutExpiry t).session = t.session := by decide

theorem test_setAccept :
    (after (.setAccept 0#8) shop).coins.acceptance = false ∧ status (.setAccept 3#8) shop = .outOfRange := by decide

/-- A value of 20000 is clamped to 10000 (R59). -/
theorem test_setCoinType :
    (after (.setCoinType 15#8 { value := 20000#16, destination := 0xFF#8, inhibit := 2#8, changeDependent := 0#8 })
        shop).coins.table[15] =
      { value := 10000, destination := .cashbox, inhibit := true, changeDependent := false } := by decide

theorem test_clearCashbox :
    payload .clearCashbox { shop with coins := { shop.coins with cashbox := 258 } } =
      [0x00#8, 0x00#8, 0x01#8, 0x02#8] := by decide

theorem test_coinPresented :
    ((after (.coinPresented (some 0)) shop).coins.slot.map (·.route)) = some (.tube 1) ∧
      ((after (.coinPresented (some 2)) shop).coins.lastReject.map (·.reason)) = some .inhibited := by decide

theorem test_acceptSensorPulse :
    (after .acceptSensorPulse (inSlot (.tube 1))).session.coin = 60 ∧
      ((after .acceptSensorPulse (inSlot (.tube 1))).tube 1).count = 21 := by decide

theorem test_transitLimitExpiry :
    (after .transitLimitExpiry (inSlot .cashbox)).coins.slot = none ∧
      (after .transitLimitExpiry (inSlot .cashbox)).port.flags = 0x100#17 := by decide

/-! ## Tubes and payouts -/

/-- A low mark of 200 is clamped to one less than the capacity of 60 (R54). -/
theorem test_setTube :
    let t := (after (.setTube 2#8 { value := 20#16, capacity := 60#8, lowMark := 200#8, reserve := 2#8 }) shop).tube 2
    t.lowMark = 59 ∧ t.value = 20 ∧ t.presence = .active := by decide

theorem test_setTubeCount :
    ((after (.setTubeCount 1#8 7#8) shop).tube 1).count = 7 ∧ ((after (.setTubeCount 1#8 7#8) shop).tube 1).verified = true := by
  decide

/-- The record as taken: value, capacity, low mark, reserve, presence, count, verified, committed and the levels, full
first (R55, and the table before R41). -/
theorem test_setTubeCount_record :
    payload (.setTubeCount 1#8 7#8) shop =
      [0x00#8, 0x0A#8, 0x32#8, 0x04#8, 0x00#8, 0x01#8, 0x07#8, 0x01#8, 0x00#8, 0x01#8, 0x01#8] := by decide

theorem test_clearTubeFault :
    let s := shop.setTube 1 { tubeA with presence := .fault }
    ((after (.clearTubeFault 1#8) s).tube 1).presence = .active ∧ status (.clearTubeFault 0#8) s = .notFitted := by decide

/-- 5 units cannot be paid from a tube of 10s: EXACT_CHANGE is bit 12 (R56). -/
theorem test_setProbes :
    let t := after (.setProbes { amount0 := 30#16, amount1 := 5#16, amount2 := 0#16, amount3 := 0#16 }) shop
    t.tubes.exactChange = true ∧ t.port.flags = 0x1000#17 := by decide

/-- After the state, the code, the exact-change state and the probes, tube 0: ten fields, then basis, FULL, and the levels,
COVERED 0 and UNCOVERED 1 (R57, R181). -/
theorem test_readTubes :
    let s := { shop with tubes := { purse with tubes := purse.tubes.set 0 { tubeA with fullCovered := true } } }
    (s.tube 0).fields =
      [0x00#8, 0x0A#8, 0x32#8, 0x04#8, 0x00#8, 0x01#8, 0x14#8, 0x00#8, 0x00#8, 0x14#8, 0x01#8, 0x00#8, 0x01#8] ∧
      status .readTubes s = .ok := by decide

/-- Uncovered below the low mark of 4: the count becomes 3 (R47). -/
theorem test_levelSensorTransition :
    let s := shop.setTube 1 { tubeA with lowCovered := true }
    ((after (.levelSensorTransition 1 .low false) s).tube 1).count = 3 := by decide

theorem test_cassetteContactChange :
    (after (.cassetteContactChange .first false 0) shop).tubes.cassette = .partlySeated ∧
      ((after (.cassetteContactChange .first false 0) shop).tube 1).presence = .absent := by decide

/-- Three coins of 10 asked from tube 1 (R82). -/
theorem test_dispense :
    payload (.dispense 1#8 3#8) service = [0x03#8, 0x00#8, 0x00#8, 0x00#8, 0x00#8] ∧
      ((after (.dispense 1#8 3#8) service).tube 1).committed = 3 := by decide

theorem test_readPayoutResult : status .readPayoutResult (paying (plan1 5) false) = .ok := by decide

theorem test_payoutSensorPulse :
    (after .payoutSensorPulse (paying (plan1 5) false)).session.coin = 40 ∧
      ((after .payoutSensorPulse (paying (plan1 5) false)).tube 1).count = 19 := by decide

/-- A coin confirmed within its 30 ms leaves its pulse running while another tube's begins (R84). -/
theorem test_payoutSensorPulse_solenoids :
    let s := paying ((plan1 1).set 0 1) false
    let u := { s.setTube 0 { tubeA with value := 5, committed := 1 } with
               payout := { s.payout with solenoids := s.payout.solenoids.set 1 (some { elapsed := 9, limit := 30 }) } }
    (after .payoutSensorPulse u).payout.solenoids[(1 : Fin 6)] = some { elapsed := 9, limit := 30 } ∧
      (after .payoutSensorPulse u).payout.solenoids[(0 : Fin 6)] = some { elapsed := 0, limit := 30 } := by decide

/-- After a retry's expiry faults the tube, a sensor pulse that came with it is ignored (R86). -/
theorem test_payoutCoinLimitExpiry_met :
    let s := paying ((plan1 1).set 0 1) true
    let u := { s.setTube 0 { tubeA with value := 5, committed := 1 } with
               payout := { s.payout with order := s.payout.order.map fun o =>
                 { o with awaited := o.awaited.map fun a => { a with timer := { elapsed := 250, limit := 250 } } } } }
    let v := after .payoutCoinLimitExpiry u
    ((v.payout.order.bind (·.awaited)).map (·.tube)) = some 0 ∧ after .payoutSensorPulse v = v := by decide

/-- The retry pulse, then the tube's fault (R84, R86). -/
theorem test_payoutCoinLimitExpiry :
    (((after .payoutCoinLimitExpiry (paying (plan1 5) false)).payout.order.bind (·.awaited)).map (·.retry)) = some true ∧
      ((after .payoutCoinLimitExpiry (paying (plan1 5) true)).tube 1).presence = .fault := by decide

theorem test_payoutBudgetWaitExpiry :
    ((after .payoutBudgetWaitExpiry waitingOrder).payout.record.map (·.cause)) = some .budget ∧
      (after .payoutBudgetWaitExpiry waitingOrder).session.state = .opened := by decide

/-! ## Cooling -/

/-- −5.0 °C is the lowest setpoint: −6.0 °C is clamped to it (R143). -/
theorem test_setCooling :
    (after (.setCooling
        { setpoint := 0xFFC4#16, differential := 20#8, setback := 30#8, holdLimit := 80#8, holdDelay := 0#8,
          minimumOff := 180#16, minimumRun := 120#16, startInterval := 3#8, defrostInterval := 6#8, termination := 80#8,
          maximumDefrost := 20#8, drip := 3#8, fallbackRun := 10#8, fallbackOff := 20#8, enabled := 1#8 })
      shop).cooling.settings = { CoolingSettings.initial with setpoint := -50, holdDelay := 1 } := by decide

/-- A hold that a warm start retained waits for the first seeding: SET_COOLING before it leaves it TIMING (R157). -/
theorem test_setCooling_retained_hold :
    (after (.setCooling CoolingSettings.initial.params) (withCooling { rest with hold := .timing })).cooling.hold = .timing ∧
      (after (.thermistorSample .cabinet (.temperature 80)) (withCooling { rest with hold := .timing })).cooling.hold =
        .clear := by decide

theorem test_readCooling : status .readCooling shop = .ok := by decide

theorem test_releaseHold :
    status .releaseHold (withCooling { rest with hold := .latched, cabinet := reading 51 }) = .tooWarm ∧
      status .releaseHold (withCooling { rest with hold := .latched, cabinet := reading 50 }) = .ok := by decide

theorem test_startDefrost :
    (after .startDefrost shop).cooling.defrost = .heating ∧ status .startDefrost heating = .busy := by decide

/-- A quarter of 30 → 50 is 5 (R142); 5.0 °C is the setpoint with the differential, so the call is on (R144). -/
theorem test_thermistorSample :
    (after (.thermistorSample .cabinet (.temperature 50))
          (withCooling { rest with cabinet := reading 30 })).cooling.cabinet.filtered =
        some 35 ∧
      (after (.thermistorSample .cabinet (.temperature 50)) shop).cooling.call = true := by decide

theorem test_fallbackPhaseEnd :
    let s := withCooling { rest with call := true, fallback := some (.on, { elapsed := 600000, limit := 600000 }) }
    (after .fallbackPhaseEnd s).cooling.call = false := by decide

/-- The grant falls from the start demand to the run demand (R147). -/
theorem test_startIntervalEnd :
    (after .startIntervalEnd startingCompressor).arbiter.table.compressor = .granted 45 18 ∧
      (after .startIntervalEnd startingCompressor).cooling.compressor = .running := by decide

theorem test_minimumRunExpiry :
    (after .minimumRunExpiry runningCompressor).cooling.compressor = .running ∧
      (after .minimumRunExpiry
          { runningCompressor with cooling := { runningCompressor.cooling with call := false } }).cooling.compressor =
        .offResting := by decide

theorem test_minimumOffEnd :
    (after .minimumOffEnd shop).cooling.compressor = .offIdle ∧
      (after .minimumOffEnd (withCooling { rest with call := true, cabinet := reading 60 })).cooling.compressor =
        .starting := by decide

theorem test_accumulatedRunCount :
    (after .accumulatedRunCount runningCompressor).cooling.accumulatedRun = 1 ∧
      (after .accumulatedRunCount
          { runningCompressor with
            cooling := { runningCompressor.cooling with accumulatedRun := 21599 } }).cooling.defrost = .pending := by decide

theorem test_maximumDefrostReached :
    (after .maximumDefrostReached heating).cooling.defrost = .dripping ∧
      (after .maximumDefrostReached heating).arbiter.table.defrost = .idle := by decide

theorem test_dripEnd : (after .dripEnd (dripping .offResting false)).cooling.accumulatedRun = 0 := by decide

theorem test_holdDelayReached :
    (after .holdDelayReached (withCooling { rest with hold := .timing })).cooling.hold = .latched ∧
      (after .holdDelayReached (withCooling { rest with hold := .timing })).port.flags = 0x8#17 := by decide

/-! ## Budget, supply and power -/

/-- A budget of 5 is clamped to 10, which is below the 18 granted: it stands pending (R164). -/
theorem test_setBudget :
    let t := after (.setBudget { budget := 5#8, payoutDemand := 8#8, startDemand := 45#8, runDemand := 18#8,
                                 defrostDemand := 25#8, fair := 1#8, releaseMode := 0#8 }) runningCompressor
    t.arbiter.pendingBudget = some 10 ∧ t.arbiter.budget = 60 ∧ t.arbiter.releaseMode = .rwd := by decide

theorem test_readBudget : status .readBudget shop = .ok := by decide

theorem test_enterQuiet :
    status .enterQuiet shop = .busy ∧ (after .enterQuiet idleShop).supply.quiet = true := by decide

theorem test_wake : (after .wake quiet).supply.quiet = false ∧ (after .wake quiet).port.flags = 0#17 := by decide

theorem test_setWakeSources :
    (after (.setWakeSources { coin := 0#8, door := 0#8, cashless := 1#8 }) shop).supply.wakeCashless = true ∧
      status (.setWakeSources { coin := 2#8, door := 0#8, cashless := 1#8 }) shop = .outOfRange := by decide

theorem test_readSupply :
    (after (.readSupply 1#8) underRail).supply.underSeen = false ∧
      (payload (.readSupply 1#8) underRail).take 5 = [0x01#8, 0x01#8, 0x00#8, 0x01#8, 0x00#8] := by decide

/-- T_start 10 is clamped to 50, retries 9 to 2, a credit ceiling of 0 to 1, an expected code of 9 to 3 (R186). -/
theorem test_setMachine :
    (after (.setMachine
        { tStart := 10#16, tCycle := 4000#16, tDrop := 1200#16, retries := 9#8, dropSensing := 0#8,
          budgetWait := 5000#16, transitLimit := 300#16, payoutCoinLimit := 250#16, vendMode := 1#8,
          creditCeiling := 0#16, sessionTimeout := 0#8, expectedCode := 9#8 }) shop).machine =
      { MachineSettings.initial with
        tStart := 50, retries := 2, dropSensing := false, vendMode := .multi, creditCeiling := 1, sessionTimeout := 0
        expectedCode := 3 } := by decide

theorem test_storeImage : status .storeImage shop = .noMemory := by decide

theorem test_storeEnd :
    let s := { shop with image := { shop.image with fitted := true, result := .running, copy := some [0x50#8, 0x33#8] } }
    (after (.storeEnd none) s).image.result = .ok ∧ (after (.storeEnd (some 1)) s).image.result = .writeFail := by decide

/-- 19.0 V is not below the threshold (R166); a supply event ends a payout with cause SUPPLY (R91, R166). -/
theorem test_supplyEvent :
    (after (.supplyEvent .under 18999) (paying (plan1 5) false)).payout.order = none ∧
      (after (.supplyEvent .under 18999) (paying (plan1 5) false)).port.isSet .supply = true ∧
      (after (.supplyEvent .under 19000) shop).port.flags = 0#17 := by decide

theorem test_supplyCleared :
    (after (.supplyCleared .under 20001) underRail).supply.underLevel = false ∧
      (after (.supplyCleared .under 20000) underRail).supply.underLevel = true := by decide

theorem test_doorChange : (after (.doorChange .opened) shop).supply.door = .opened := by decide

/-- 2.4 V is WEAK, below it DEAD; CELL is bit 14 (R172). -/
theorem test_cellSample :
    (after (.cellSample 2400) shop).supply.cell = .weak ∧ (after (.cellSample 2399) shop).supply.cell = .dead ∧
      (after (.cellSample 2399) shop).port.flags = 0x4000#17 := by decide

theorem test_powerFailWarning :
    (after (.powerFailWarning 2399) shop).supply.markerValid = false ∧
      (after (.powerFailWarning 2400) shop).supply.markerValid = true := by decide

theorem test_rstNAssertion :
    (after .rstNAssertion (inSlot .cashbox)).coins.slot = none ∧
      (after .rstNAssertion (inSlot .cashbox)).supply.power = .inert := by decide

/-- The credit stands through a warm start, and opens a session (R97, R190). -/
theorem test_warmStart :
    (after (.warmStart false 3000 bareInputs) (inert true)).session.state = .opened ∧
      (after (.warmStart false 3000 bareInputs) (inert true)).session.coin = 50 := by decide

theorem test_coldStart :
    (after (.coldStart false 3000 bareInputs) (inert true)).session = State.reset.session ∧
      (after (.coldStart true 3000 bareInputs) (inert true)).supply.power = .loading := by decide

/-- An erased memory holds no valid image: BAD_IMAGE and STORE_DONE, bit 15 (R193). -/
theorem test_imageLoad :
    (after (.imageLoad false bareInputs) loading).image.imageBad = true ∧
      (after (.imageLoad false bareInputs) loading).port.flags = 0x8000#17 := by decide

/-- A lane's item with the given fitted byte and alternate byte. -/
def imageLane (fitted alternate : Byte) : ImageLane := { imageLaneOf (some laneA) with fitted := fitted, alternate := alternate }

/-- An alternate is a lane or 0xFF (R15, R181); 80 to 254 is neither, in a fitted lane's item. Unlike it, an alternate
that names an unfitted lane is dropped (R193). -/
theorem test_image_alternate :
    (imageLane 1 0xFF#8).enumerated = true ∧ (imageLane 1 79#8).enumerated = true ∧
      (imageLane 1 80#8).enumerated = false ∧ (imageLane 1 254#8).enumerated = false ∧
      (imageLane 0 254#8).enumerated = true ∧ (imageLane 2 0xFF#8).enumerated = false ∧
      State.reset.imageOf.alternateOf 0 79#8 = none := by decide

/-! ## Witnesses: for each statement with hypotheses, states and operands that meet them, clause by clause -/

theorem takes (s : State) (h : s.supply.power = .running) (l : s.port.link ≠ .held) : s.TakesFrames := ⟨h, l⟩

theorem shop_takes : shop.TakesFrames := takes shop rfl (by decide)

theorem witness_StepRunsTheFrontCommand : ({ shop with pending := [.wake] } : State).pending = .wake :: [] := rfl

theorem witness_EmptyQueueLetsTimePass :
    let late := { shop with session := { credit with timer := some { elapsed := 60000, limit := 60000 } } }
    (late.pending = [] ∧ late.due = some .sessionTimeoutExpiry) ∧
      ((inert true).pending = [] ∧ (inert true).supply.power ≠ .running) ∧
      (shop.pending = [] ∧ shop.supply.power = .running ∧ shop.due = none) := by decide

theorem witness_RequestShiftsOutTheReplyBeforeIt :
    encodeFrame (.vend 300#16) = some (0x20#8 :: [0x01#8, 0x2C#8]) ∧ shop.TakesFrames := ⟨by decide, shop_takes⟩

theorem witness_RefusedRequestChangesNothing :
    ((encodeFrame (.vend 1000#16)).isSome = true ∧ exec (.vend 1000#16) shop = .next (after (.vend 1000#16) shop) ∧
        status (.vend 1000#16) shop ≠ .ok ∧ status (.vend 1000#16) shop ≠ .accepted) ∧
      ((encodeFrame (.readWindow 8#8)).isSome = true ∧ exec (.readWindow 8#8) shop = .next (after (.readWindow 8#8) shop) ∧
        status (.readWindow 8#8) shop ≠ .ok ∧ status (.readWindow 8#8) shop ≠ .accepted) ∧
      ((encodeFrame (.grantCashless 5#16)).isSome = true ∧
        exec (.grantCashless 5#16) quiet = .next (after (.grantCashless 5#16) quiet) ∧
        status (.grantCashless 5#16) quiet = .quiet ∧ quiet.supply.quiet = true ∧ quiet.supply.wakeCashless = false) :=
  ⟨⟨by decide, rfl, by decide, by decide⟩, ⟨by decide, rfl, by decide, by decide⟩,
    ⟨by decide, rfl, by decide, by decide, by decide⟩⟩

theorem witness_FramesAreJudgedInOrder :
    (requestLength (0x62#8).toNat = none ∧ requestLength (0x20#8).toNat = some 2 ∧
      [0x01#8].length ≠ 2 ∧ [0x01#8, 0x2C#8].length = 2) ∧ shop.TakesFrames := ⟨by decide, shop_takes⟩

theorem witness_EncodedRequestsDecodeToThemselves :
    encodeFrame .cancel = some [0x31#8] ∧ encodeFrame (.setLink 79#8 0xFF#8) = some [0x13#8, 0x4F#8, 0xFF#8] := by decide

theorem witness_LinkResetLosesTheReplyAlone :
    shop.supply.power = .running ∧ (encodeFrame .cancel).isSome = true ∧ encodeFrame .cancel = some [0x31#8] := by decide

theorem witness_ReadAttentionAnswersTheFirstSetFlag : shop.TakesFrames := shop_takes

theorem witness_AttentionFlagsAndMaskAreWritten :
    let s := { underRail with port := { shop.port with flags := 0x11#17 } }
    s.TakesFrames ∧ (s.port.flags.getLsbD 0 && (0x000001#24).getLsbD 0) = true ∧
      (s.port.flags.getLsbD 0 && (0x000010#24).getLsbD 0) = false :=
  ⟨takes _ rfl (by decide), by decide, by decide⟩

theorem witness_OnlyAcknowledgementOrAStartClearsAFlag :
    let s := { shop with port := { shop.port with flags := 0x10#17 } }
    exec (.ackAttention 0x10#24) s = .next (after (.ackAttention 0x10#24) s) ∧ s.port.isSet .vendDone = true ∧
      (after (.ackAttention 0x10#24) s).port.isSet .vendDone = false := ⟨rfl, by decide, by decide⟩

theorem witness_SettingsChangeOnlyByTheirOwnRequests :
    exec (.setAccept 0#8) shop = .next (after (.setAccept 0#8) shop) ∧
      (∀ f mv i, Instr.setAccept 0#8 ≠ .coldStart f mv i) ∧ (∀ a i, Instr.setAccept 0#8 ≠ .imageLoad a i) ∧
      ∀ w p, Instr.setAccept 0#8 ≠ .setWindow w p := ⟨rfl, by simp, by simp, by simp⟩

theorem witness_WindowsAreWrittenAndRead :
    shop.TakesFrames ∧
      ((7#8).toNat ≤ 7 ∧ (999#16).toNat ≤ 999 ∧ (79#8).toNat ≤ 79) ∧
      (7 < (8#8).toNat ∧ 999 < (1000#16).toNat ∧ 79 < (80#8).toNat ∧ (998#16).toNat < (999#16).toNat) ∧
      (0#8).toNat = (0 : WindowNo).val := ⟨shop_takes, by decide⟩

/-- The lowest window that contains code 1 starts at lane 79, so that the lane it computes is past the last; no window
contains code 999. -/
def farWindow : State :=
  { shop with
    lanes :=
      { lanes with
        windows := lanes.windows.set 0 { firstCode := 0, lastCode := 9, baseLane := 79, enabled := true } } }

theorem witness_LookupTakesTheLowestWindowAlone :
    999 < (1000#16).toNat ∧
      (∀ i : WindowNo, ¬(shop.lanes.windows[i].enabled = true ∧ shop.lanes.windows[i].firstCode ≤ (999#16).toNat ∧
        (999#16).toNat ≤ shop.lanes.windows[i].lastCode)) ∧
      (farWindow.lanes.windows[0].enabled = true ∧ (1#16).toNat ≤ farWindow.lanes.windows[0].lastCode ∧
        79 < farWindow.lanes.windows[0].baseLane.val + ((1#16).toNat - farWindow.lanes.windows[0].firstCode)) ∧
      (shop.lanes.windows[0].enabled = true ∧ shop.lane 9 = none ∧ shop.lane 0 = some laneA ∧
        (9 : LaneNo).val = shop.lanes.windows[0].baseLane.val + ((9#16).toNat - shop.lanes.windows[0].firstCode)) ∧
      (shop.supply.door = .closed ∧ shop.supply.quiet = false ∧ shop.session.state = .opened ∧
        shop.vend.context = none) := by decide

/-- A lane in each availability: UNFITTED, FAULTED, EMPTY in both stock modes, HELD, available. -/
theorem witness_AvailabilityIsReportedWithTheLaneRecord :
    let latched := withCooling { rest with hold := .latched }
    let faulted := { laneA with fault := some FaultCause.jam }
    shop.lane 79 = none ∧ shop.engaged 79 = false ∧
      ((shop.setLane 0 (some faulted)).lane 0 = some faulted ∧ faulted.fault ≠ none) ∧
      ((shop.setLane 0 (some { laneA with stock := .counted 0 5 })).lane 0 = some { laneA with stock := .counted 0 5 }) ∧
      ((shop.setLane 1 (some { laneB with stock := .uncounted true })).lane 1 =
        some { laneB with stock := .uncounted true }) ∧
      (latched.lane 1 = some laneB ∧ laneB.laneClass = .chilled ∧ latched.cooling.hold = .latched) ∧
      (shop.lane 0 = some laneA ∧ laneA.stock = .counted (1 + 1) 5) := by decide

theorem witness_SetLaneFitsOrReconfigures :
    shop.TakesFrames ∧ (79#8).toNat = (79 : LaneNo).val ∧ shop.engaged 79 = false ∧ shop.lane 79 = none ∧
      shop.engaged 0 = false ∧ shop.lane 0 = some laneA ∧ laneA.stock = .counted 2 5 ∧
      shop.lane 1 = some laneB ∧ laneB.stock = .uncounted false ∧ laneB.motor = .timed 500 :=
  ⟨shop_takes, by decide⟩

theorem witness_LaneRequestsAreCheckedInOrder :
    (shop.TakesFrames ∧ shop.engaged 1 = false ∧ shop.lane 1 ≠ none ∧ shop.lane 2 = none ∧ (0 : LaneNo) ≠ 1 ∧
      shop.lane 0 ≠ none ∧ (0#8).toNat = (0 : LaneNo).val) ∧
    (turning 0 laneA).TakesFrames ∧ 79 < (80#8).toNat ∧ 1 < (2#8).toNat ∧ (79 < (254#8).toNat ∧ (254#8) ≠ 0xFF#8) ∧
      (turning 0 laneA).lane 2 = none ∧ (turning 0 laneA).engaged 0 = true ∧ (turning 0 laneA).lane 0 ≠ none :=
  ⟨⟨shop_takes, by decide⟩, takes _ rfl (by decide), by decide⟩

theorem witness_RestockAndSetLinkChangeOneFieldAlone :
    shop.TakesFrames ∧ (0#8).toNat = (0 : LaneNo).val ∧ shop.lane 0 = some laneA ∧ shop.engaged 0 = false ∧
      ((1 : LaneNo) ≠ 0 ∧ shop.lane 1 ≠ none) ∧ shop.lane 79 = none ∧
      ((0xFF#8 : Byte) = 0xFF#8 ∧ (5#8).toNat ≤ 5 ∧ 5 < (6#8).toNat) ∧
      (turning 0 laneA).engaged 0 = true := ⟨shop_takes, by decide⟩

theorem witness_RetireRemovesTheLaneAndItsLinks :
    shop.TakesFrames ∧ (1#8).toNat = (1 : LaneNo).val ∧ shop.lane 1 = some laneB ∧ shop.engaged 1 = false ∧
      shop.lane 2 = none ∧ (turning 0 laneA).engaged 0 = true ∧ shop.lane 0 = some laneA ∧ laneA.alternate = some 1 :=
  ⟨shop_takes, by decide⟩

theorem witness_ClearLaneFaultReturnsTheLaneToService :
    let s := shop.setLane 0 (some { laneA with fault := some .jam })
    s.TakesFrames ∧ s.lane 0 = some { laneA with fault := some .jam } ∧ s.engaged 0 = false ∧ s.lane 2 = none ∧
      shop.lane 1 = some laneB ∧ laneB.fault = none ∧ (turning 0 laneA).engaged 0 = true :=
  ⟨takes _ rfl (by decide), by decide⟩

/-- Every lane of the shop but 0 and 1 is UNFITTED. -/
theorem shop_bare : ∀ l : LaneNo, l ≠ 0 → l ≠ 1 → shop.lane l = none := by decide

theorem shop_lane0 : shop.lane 0 = some laneA := by decide

theorem shop_lane1 : shop.lane 1 = some laneB := by decide

theorem shop_lanesLawful : shop.LanesLawful := by
  refine ⟨fun l => ?_, by decide, by decide⟩
  unfold State.LaneLawful
  by_cases h0 : l = 0
  · subst h0
    exact ⟨show 2 ≤ 5 by decide, by decide, by decide⟩
  · by_cases h1 : l = 1
    · subst h1
      exact ⟨trivial, trivial⟩
    · rw [shop_bare l h0 h1]
      trivial

theorem witness_LaneTableLawsAreKept :
    { shop with pending := [.retireLane 1#8] }.LanesLawful ∧
      step { shop with pending := [.retireLane 1#8] } = .next (after (.retireLane 1#8) shop) := ⟨shop_lanesLawful, rfl⟩

/-! ### The vend -/

/-- An operation in flight stays in flight through a NOP, and an accepted VEND leaves its context. -/
theorem witness_chain_is_fixed :
    exec (.nop 0) waitingTest = .next (after (.nop 0) waitingTest) ∧ waitingTest.vend.context ≠ none ∧
      (after (.nop 0) waitingTest).vend.context ≠ none ∧ exec (.vend 0#16) shop = .next (after (.vend 0#16) shop) ∧
      shop.vend.context = none ∧ (after (.vend 0#16) shop).vend.context ≠ none :=
  ⟨rfl, by decide, by decide, rfl, by decide, by decide⟩

/-- No alternate of the shop names an UNFITTED lane, and each length of chain has its lane. -/
theorem witness_ChainFollowsAtMostTwoLinks :
    (∀ k a, shop.lane k = some a → ∀ b, a.alternate = some b → shop.lane b ≠ none) ∧
      (shop.lane 1 = some laneB ∧ laneB.alternate = none) ∧
      (shop.lane 0 = some laneA ∧ laneA.alternate = some 1 ∧ (1 : LaneNo) ≠ 0) ∧
      (let s := (shop.setLane 1 (some { laneB with alternate := some 2 })).setLane 2 (some laneB)
       s.lane 0 = some laneA ∧ s.lane 1 = some { laneB with alternate := some 2 } ∧ s.lane 2 = some laneB) := by
  refine ⟨fun k a h b hb => ?_, by decide⟩
  by_cases h0 : k = 0
  · subst h0
    rw [shop_lane0] at h
    cases h
    cases hb
    decide
  · by_cases h1 : k = 1
    · subst h1
      rw [shop_lane1] at h
      cases h
      cases hb
    · rw [shop_bare k h0 h1] at h
      cases h

theorem witness_VendIsRefusedByTheFirstCheckThatFails :
    let empty := shop.setLane 1 (some { laneB with stock := .uncounted true })
    let sold := empty.setLane 0 (some { laneA with stock := .counted 0 5 })
    let poor := { shop with session := { credit with coin := 9 } }
    let noCoins := { shop with tubes := { purse with tubes := Vector.replicate 6 Tube.initial } }
    shop.TakesFrames ∧ 999 < (1000#16).toNat ∧ service.supply.door = .opened ∧
      (quiet.supply.door = .closed ∧ quiet.supply.quiet = true) ∧
      ((paying (plan1 5) false).session.state = .paying ∧ (paying (plan1 5) false).supply.door = .closed) ∧
      (shop.lookupCode 9).lane = none ∧
      ((sold.lookupCode 0).lane = some 0 ∧ ∀ l ∈ sold.chainOf 0, sold.unavailable l ≠ none) ∧
      ((poor.lookupCode 0).lane = some 0 ∧ (∃ l ∈ poor.chainOf 0, poor.unavailable l = none) ∧
        poor.session.coin + poor.session.cashless < laneA.price) ∧
      (laneA.price ≤ noCoins.session.coin + noCoins.session.cashless ∧
        noCoins.tubes.paysExactly (noCoins.session.coin - (laneA.price - min noCoins.session.cashless laneA.price)) =
          false) :=
  ⟨shop_takes, by decide, by decide, by decide, by decide, by decide, by decide,
    ⟨by decide, ⟨0, by decide, by decide⟩, by decide⟩, by decide⟩

theorem witness_VendAcceptedTakesThePriceIntoEscrow :
    shop.TakesFrames ∧ shop.supply.door = .closed ∧ shop.supply.quiet = false ∧ shop.session.state = .opened ∧
      shop.vend.context = none ∧ shop.arbiter.table.vend = .idle ∧ (shop.lookupCode 0).lane = some 0 ∧
      shop.lane 0 = some laneA ∧ shop.chainOf 0 = [] ++ 0 :: [1] ∧ shop.unavailable 0 = none ∧
      laneA.price ≤ shop.session.coin + shop.session.cashless ∧
      shop.tubes.paysExactly (shop.session.coin - (laneA.price - min shop.session.cashless laneA.price)) = true :=
  ⟨shop_takes, by decide⟩

theorem witness_ServiceRequestsDriveOneLane :
    let faulted := service.setLane 0 (some { laneA with fault := some .jam })
    let held := { service with cooling := { rest with hold := .latched } }
    let heldSpiral := held.setLane 0 (some { laneA with laneClass := .chilled })
    service.TakesFrames ∧ 79 < (80#8).toNat ∧ (79#8).toNat = (79 : LaneNo).val ∧ quiet.supply.quiet = true ∧
      shop.supply.door = .closed ∧ (turning 0 laneA).vend.context ≠ none ∧
      (service.supply.quiet = false ∧ service.supply.door = .opened ∧ service.session.state = .idle ∧
        service.vend.context = none ∧ service.lane 79 = none ∧ service.lane 0 = some laneA ∧
        service.unavailable 0 = none ∧ service.arbiter.table.vend = .idle ∧ service.lane 1 = some laneB) ∧
      faulted.unavailable 0 = some .faulted ∧
      heldSpiral.lane 0 = some { laneA with laneClass := .chilled } ∧ heldSpiral.cooling.hold = .latched :=
  ⟨takes _ rfl (by decide), by decide⟩

theorem witness_ReadVendResultIsTwentyEightBytes :
    shop.TakesFrames ∧ shop.vend.result = none ∧ (after .vendBudgetWaitExpiry waitingTest).vend.result ≠ none ∧
      shop.vend.context = none ∧ waitingTest.vend.context ≠ none := ⟨shop_takes, by decide⟩

theorem witness_VendGrantStartsTheFirstRun :
    let c := service.serviceContext .testVend 0
    (waitingTest.supply.power = .running ∧ waitingTest.supply.underLevel = false ∧ waitingTest.supply.overLevel = false ∧
      waitingTest.vend.context = some c ∧ c.phase = .waitGrant ∧ waitingTest.lane c.current = some laneA ∧
      waitingTest.arbiter.table.vend = .waiting 12 ∧ waitingTest.arbiter.table.payout = .idle ∧
      waitingTest.arbiter.table.compressor = .idle ∧ waitingTest.arbiter.table.defrost = .idle ∧
      laneA.laneClass = .ambient) ∧
      (let h := { waitingTest.setLane 0 (some { laneA with laneClass := .chilled }) with
                  cooling := { rest with hold := .latched } }
       h.lane 0 = some { laneA with laneClass := .chilled } ∧ h.cooling.hold = .latched ∧ c.chain = [] ++ c.current :: []) := by
  decide

/-- A machine whose lane 0 is held, with a chain to lane 1, which is not available or available: the laws hold in it. -/
theorem witness_HeldLaneIsLeftAtTheGrant :
    let c := { service.serviceContext .testVend 0 with chain := [0, 1] }
    let h := { waitingTest.setLane 0 (some { laneA with laneClass := .chilled }) with
               cooling := { rest with hold := .latched }, vend := { service.vend with context := some c } }
    let free := h.setLane 1 (some { laneB with laneClass := .ambient })
    h.vend.context = some c ∧ c.chain = [] ++ c.current :: [1] ∧ c.current ∉ ([] : List LaneNo) ∧
      (∀ l ∈ ([1] : List LaneNo), h.unavailable l ≠ none) ∧ h.VendLawful ∧
      ([1] : List LaneNo) = [] ++ 1 :: [] ∧ free.unavailable 1 = none ∧
      free.lane 1 = some { laneB with laneClass := .ambient } ∧ free.VendLawful :=
  ⟨rfl, rfl, by decide, by decide, ⟨by decide, by decide, ⟨12, rfl⟩, by decide⟩, rfl, by decide, rfl,
    ⟨by decide, by decide, ⟨12, rfl⟩, by decide⟩⟩

theorem witness_VendBudgetWaitEndsTheOperation :
    waitingTest.supply.power = .running ∧
      waitingTest.vend.context = some (service.serviceContext .testVend 0) ∧
      (service.serviceContext .testVend 0).budgetWait ≠ none ∧
      (∀ c ∈ (turning 0 laneA).vend.context, c.budgetWait = none) ∧
      (let v := { service.serviceContext .testVend 0 with kind := .vend }
       v.kind = .vend ∧ v.budgetWait ≠ none ∧ shop.session.cancelPending = false) := by decide

/-- The drive of lane 0 turning or homing for the given request, with the given drop, home level and debounce. -/
def driven (kind : OpKind) (drop : Option LaneNo) (level : Option HomeLevel) (stalls : Bool) : State :=
  let c := VendContext.underway { service.serviceContext kind 0 with budgetWait := none } (decide (kind = .homeLane)) laneA.motor
  let d := { laneA.freshDrive 0 with
             homeLevel := level, homeOpened := level.isSome
             stallDebounce := if stalls then some { elapsed := 50, limit := 50 } else none }
  { turning 0 laneA with
    vend := { service.vend with context := some { c with dropSeen := drop } }
    drive := { context := some d, marker := some 0 } }

/-- The outcome and the reason of the operation that the command ends. -/
def ending (c : Instr) (s : State) : Option (VendOutcome × Option VendReason) :=
  (after c s).vend.result.map fun r => (r.outcome, r.reason)

/-- A turn whose drop was seen ends the operation at the closed edge, at a stall, at an open circuit and at each limit. -/
theorem witness_DropSeenEndsTheOperation :
    let s := driven .testVend (some 0) (some .opened) false
    let t := driven .testVend (some 0) none
    ((s.drive.context.map fun d => (d.lane, d.homeOpened, d.homeLevel)) = some (0, true, some .opened) ∧
        (s.drive.context.map (·.stopCondition)) = some .atHome ∧
        (s.vend.context.map fun c => (c.current, c.phase, c.kind, c.dropSeen)) = some (0, .turning, .testVend, some 0) ∧
        s.lane 0 = some laneA ∧ ending (.homeLevelChange .closed) s = some (.vended, none)) ∧
      ending .stallDebounceExpiry (t true) = some (.vended, none) ∧ ending (.openCheck 49) (t false) = some (.vended, none) ∧
      ending .tStartExpiry (t false) = some (.vended, none) ∧ ending .tCycleExpiry (t false) = some (.vended, none) := by
  decide

/-- A HOME_LANE ends VENDED at HOME, and FAILED with reason DRIVE at a stall, at an open circuit and at its limit. -/
theorem witness_HomeLaneEnds :
    let s := driven .homeLane none (some .opened) false
    let t := driven .homeLane none none
    (s.vend.context.map fun c => (c.current, c.phase, c.kind, c.dropSeen)) = some (0, .homing, .homeLane, none) ∧
      ending (.homeLevelChange .closed) s = some (.vended, none) ∧
      ending .stallDebounceExpiry (t true) = some (.failed, some .drive) ∧
      ending (.openCheck 49) (t false) = some (.failed, some .drive) ∧
      ending .tCycleExpiry (t false) = some (.failed, some .drive) ∧
      ending .tCycleExpiry (driven .homeLane (some 0) none false) = some (.vended, none) := by decide

/-- A TIMED run whose drop was seen ends with its run time; a TIMED lane's level changes and reports nothing; and a
change before START_LEVEL_TAKEN gives the start level. -/
theorem witness_LevelsBeforeTheStartLevel :
    let s := turning 1 laneB
    let seen := { s with vend := { s.vend with context := s.vend.context.map fun c => { c with dropSeen := some 1 } } }
    ending .runTimeExpiry seen = some (.vended, none) ∧
      ((after (.homeLevelChange .opened) s).drive.context.map fun d => (d.homeLevel, d.homeOpened)) =
        some (some .opened, false) ∧
      ((after (.homeLevelChange .opened) (turning 0 laneA)).drive.context.map fun d => (d.homeLevel, d.homeOpened)) =
        some (some .opened, true) ∧
      ((after (.homeLevelChange .closed) (turning 0 laneA)).drive.context.map fun d => (d.homeLevel, d.homeOpened)) =
        some (some .closed, false) := by decide

/-- A drive that began in the event that ended another, before its start level. -/
theorem witness_DriveBegunInTheEventThatEndedAnother :
    let d := { laneA.freshDrive 0 with edgeOver := true, checkOver := true }
    let s := { turning 0 laneA with drive := { context := some d, marker := some 0 } }
    s.supply.power = .running ∧ s.drive.context = some d ∧ d.edgeOver = true ∧ d.checkOver = true ∧ d.homeLevel = none := by
  decide

theorem witness_HomeSwitchEndsARunAtHome :
    let d := { laneA.freshDrive 0 with homeLevel := some .opened, homeOpened := true }
    let c := VendContext.underway { service.serviceContext .testVend 0 with budgetWait := none } false laneA.motor
    shop.drive.context = none ∧
      ((turning 0 laneA).drive.context = some (laneA.freshDrive 0) ∧ (laneA.freshDrive 0).homeLevel = none ∧
        (laneA.freshDrive 0).stopCondition = .atHome ∧ (laneA.freshDrive 0).homeOpened = false ∧
        (turning 0 laneA).vend.context = some c) ∧
      ((turning 1 laneB).drive.context = some (laneB.freshDrive 1) ∧ (laneB.freshDrive 1).stopCondition = .commanded) ∧
      ((opened false).supply.power = .running ∧ (opened false).drive.context = some d ∧ d.stopCondition = .atHome ∧
        d.homeOpened = true ∧ d.homeLevel = some .opened ∧
        (opened false).vend.context = some { c with tStart := none } ∧ c.current = d.lane ∧
        (opened false).lane d.lane = some laneA ∧ c.kind ≠ .homeLane ∧ c.dropSeen = none ∧
        c.inForce.dropSensing = true ∧ c.window = .opened none ∧ c.phase = .turning) ∧
      (((opened true).vend.context.map (·.phase)) = some .homing ∧ laneA.laneClass = .ambient ∧
        (opened true).arbiter.table.vend.isGranted = true ∧ (opened true).supply.underLevel = false ∧
        (opened true).supply.overLevel = false) := by decide

/-- A homing run at its closed edge, with drop sensing ON or OFF, on an ambient lane or on a chilled one. -/
def homingAtHome (sensing chilled latched : Bool) : State :=
  let c := { service.serviceContext .testVend 0 with budgetWait := none }
  let c := VendContext.underway { c with inForce := { c.inForce with dropSensing := sensing } } true laneA.motor
  let s := opened true
  { s.setLane 0 (some { laneA with laneClass := if chilled then .chilled else .ambient }) with
    vend := { s.vend with context := some { c with tStart := none } }
    cooling := { s.cooling with hold := if latched then .latched else .clear } }

/-- After a homing run: the first turn with drop sensing OFF; on a lane held by then the window runs T_drop, and with no
window the lane is left with cause HELD (R123, R124, R127, R129). -/
theorem witness_ClosedEdgeOfAHomingRun :
    let e := Instr.homeLevelChange .closed
    ((homingAtHome false false true).vend.context.map fun c =>
          (c.kind, c.phase, c.dropSeen, c.inForce.dropSensing, c.window)) =
        some (.testVend, .homing, none, false, .closed) ∧
      ((after e (homingAtHome false false true)).vend.context.map fun c => (c.phase, c.turnsMade, c.window)) =
        some (.turning, 1, .closed) ∧
      ((homingAtHome true true true).vend.context.map fun c => (c.phase, c.window)) = some (.homing, .opened none) ∧
      ((after e (homingAtHome true true true)).vend.context.map fun c => (c.phase, c.leaveCause, c.window)) =
        some (.afterStop, some .held, .opened (some { elapsed := 0, limit := 1200 })) ∧
      ((homingAtHome false true true).arbiter.table.vend.isGranted = true ∧
        ending e (homingAtHome false true true) = some (.failed, some .held)) := by decide

theorem witness_DriveCurrentFaultsTheLane :
    let c := VendContext.underway { service.serviceContext .testVend 0 with budgetWait := none } false laneA.motor
    let d := laneA.freshDrive 0
    shop.drive.context = none ∧ (turning 0 laneA).drive.context = some d ∧ d.stallThreshold < 2401 ∧
      2400 ≤ d.stallThreshold ∧ d.stallDebounce = none ∧ d.openCheckPassed = false ∧ 50 ≤ 50 ∧ 49 < 50 ∧
      (turning 0 laneA).vend.context = some c ∧ c.current = d.lane ∧ (turning 0 laneA).lane d.lane = some laneA ∧
      c.kind ≠ .homeLane ∧ c.dropSeen = none ∧ c.window = .opened none ∧
      ((after (.driveCurrentChange 2401) (turning 0 laneA)).drive.context.map (·.stallDebounce)) ≠ some none ∧
      ((after (.openCheck 50) (turning 0 laneA)).drive.context.map (·.openCheckPassed)) = some true := by decide

/-- With drop sensing OFF no window is open, and its lane can fail by a stall, an open circuit and each limit. -/
theorem witness_DropSensingOffLeavesAtOnce :
    let s := turningUnsensed 0 laneA
    let c := unsensed 0 laneA.motor
    let d := laneA.freshDrive 0
    s.supply.power = .running ∧ s.vend.context = some c ∧ s.drive.context = some d ∧ c.current = d.lane ∧
      s.lane d.lane = some laneA ∧ c.kind ≠ .homeLane ∧ c.dropSeen = none ∧ c.window = .closed ∧
      s.arbiter.table.vend.isGranted = true ∧ s.supply.underLevel = false ∧ s.supply.overLevel = false ∧
      d.openCheckPassed = false ∧ d.stallDebounce = none ∧
      ((after (.driveCurrentChange 2401) s).drive.context.map (·.stallDebounce)) ≠ some none ∧
      (∃ t, c.tStart = some t ∧ t.overtaken = false) ∧ (∃ t, c.tCycle = some t ∧ t.overtaken = false) ∧
      c.chain = [] ++ c.current :: [] ∧ c.motionBegun = true ∧ c.driveBounceUsed = false :=
  ⟨rfl, rfl, rfl, rfl, rfl, by decide, rfl, rfl, rfl, rfl, rfl, rfl, rfl, by decide, ⟨_, rfl, rfl⟩, ⟨_, rfl, rfl⟩, rfl,
    rfl, rfl⟩

theorem witness_RunLimitsEndTheRun :
    let c := VendContext.underway { service.serviceContext .testVend 0 with budgetWait := none } false laneA.motor
    let e := VendContext.underway { service.serviceContext .testVend 1 with budgetWait := none } false laneB.motor
    let h := VendContext.underway { service.serviceContext .homeLane 0 with budgetWait := none } true laneA.motor
    (∃ runs : Option Timer → Prop, ∀ x, runs x ↔ ∃ t, x = some t ∧ t.overtaken = false) ∧ shop.vend.context = none ∧
      ((turning 0 laneA).vend.context = some c ∧ c.runTime = none ∧ (c.tStart.map (·.overtaken)) = some false ∧
        (c.tCycle.map (·.overtaken)) = some false ∧
        (turning 0 laneA).drive.context = some (laneA.freshDrive 0) ∧ c.current = (laneA.freshDrive 0).lane ∧
        (turning 0 laneA).lane 0 = some laneA ∧ c.kind ≠ .homeLane ∧ c.dropSeen = none ∧ c.window = .opened none) ∧
      ((turning 1 laneB).vend.context = some e ∧ (e.runTime.map (·.overtaken)) = some false ∧ e.tStart = none ∧ e.tCycle = none ∧
        e.inForce.dropSensing = true ∧ e.limitCause = none ∧ e.window = .opened none) ∧
      (let s := { turning 0 laneA with vend := { service.vend with context := some h } }
       s.vend.context = some h ∧ s.drive.context = some (laneA.freshDrive 0) ∧ s.lane 0 = some laneA ∧
         h.kind = .homeLane ∧ (h.tCycle.map (·.overtaken)) = some false ∧ h.dropSeen = none) :=
  ⟨⟨_, fun _ => Iff.rfl⟩, by decide⟩

theorem witness_FirstDropInTheWindowSucceeds :
    let c := VendContext.underway { service.serviceContext .testVend 0 with budgetWait := none } false laneA.motor
    shop.vend.context = none ∧
      (waitingTest.vend.context.map (·.window)) = some .closed ∧
      ((turning 0 laneA).supply.power = .running ∧ (turning 0 laneA).vend.context = some c ∧ c.window = .opened none ∧
        c.dropSeen = none ∧ c.afterClose = false ∧ (turning 0 laneA).lane c.current = some laneA ∧
        laneA.stock = .counted 2 5 ∧
        c.phase = .turning ∧ c.kind ≠ .vend) ∧
      ((inWindow 0 [0]).vend.context.map (·.phase)) = some .afterStop := by decide

/-- With drop sensing OFF: a HOMED turn before its closed edge, and a TIMED one before the end of its run time. -/
theorem witness_CompletionCountsAsTheDrop :
    let c := unsensed 0 laneA.motor
    let e := unsensed 1 laneB.motor
    let d := { laneA.freshDrive 0 with homeLevel := some .opened, homeOpened := true }
    let s := { turningUnsensed 0 laneA with drive := { context := some d, marker := some 0 } }
    let t := turningUnsensed 1 laneB
    (s.drive.context = some d ∧ c.current = d.lane ∧ s.lane d.lane = some laneA ∧ c.kind ≠ .homeLane ∧
      s.vend.context = some c ∧ c.inForce.dropSensing = false ∧ c.dropSeen = none ∧ d.stopCondition = .atHome ∧
      d.homeOpened = true ∧ d.homeLevel = some .opened ∧ c.phase = .turning) ∧
      (t.drive.context = some (laneB.freshDrive 1) ∧ t.vend.context = some e ∧ e.current = 1 ∧
        t.lane 1 = some laneB ∧ laneB.motor = .timed 500 ∧ (e.runTime.map (·.overtaken)) = some false ∧
        e.limitCause = none ∧ e.inForce.dropSensing = false ∧ e.dropSeen = none) := by decide

theorem witness_EmptyTurnRetriesThenLeavesTheLane :
    let c (n : Nat) (chain : List LaneNo) : VendContext :=
      { VendContext.underway { service.serviceContext .testVend 0 with budgetWait := none } false laneA.motor with
        phase := .afterStop, window := .opened (some { elapsed := 0, limit := 1200 }), tStart := none, tCycle := none
        retriesLeft := n, chain := chain }
    ((turning 0 laneA).vend.context.map (·.window)) = some (.opened none) ∧
      ((inWindow 1 [0]).vend.context = some (c 1 [0]) ∧ (c 1 [0]).window = .opened (some { elapsed := 0, limit := 1200 }) ∧
        (c 1 [0]).supplyAborted = false ∧ (c 1 [0]).leaveCause = none ∧ (inWindow 1 [0]).lane 0 = some laneA ∧
        (inWindow 1 [0]).arbiter.table.vend.isGranted = true ∧ (inWindow 1 [0]).supply.underLevel = false ∧
        (inWindow 1 [0]).supply.overLevel = false ∧ 0 < (c 1 [0]).retriesLeft ∧ laneA.laneClass = .ambient) ∧
      ((inWindow 0 [0]).vend.context = some (c 0 [0]) ∧ (c 0 [0]).retriesLeft = 0 ∧ (c 0 [0]).motionBegun = true ∧
        (c 0 [0]).chain = [] ++ [(c 0 [0]).current] ∧ (c 0 [0]).dropSeen = none) ∧
      ((inWindow 0 [0, 1]).vend.context = some (c 0 [0, 1]) ∧
        (c 0 [0, 1]).chain = [] ++ (c 0 [0, 1]).current :: 1 :: [] ∧ (1 : LaneNo) ≠ (c 0 [0, 1]).current ∧
        (c 0 [0, 1]).driveBounceUsed = false ∧ (inWindow 0 [0, 1]).unavailable 1 = none ∧
        (inWindow 0 [0, 1]).lane 1 = some laneB) ∧
      (let b := { c 0 [0] with leaveCause := some .drive }
       let s := { inWindow 0 [0] with vend := { service.vend with context := some b } }
       s.vend.context = some b ∧ b.leaveCause = some .drive ∧ b.dropSeen = none ∧ b.supplyAborted = false ∧
         s.arbiter.table.vend.isGranted = true ∧ b.driveBounceUsed = false ∧ b.chain = [] ++ b.current :: []) ∧
      (let s := { (inWindow 1 [0]).setLane 0 (some { laneA with laneClass := .chilled }) with
                  cooling := { rest with hold := .latched } }
       s.vend.context = some (c 1 [0]) ∧ s.lane 0 = some { laneA with laneClass := .chilled } ∧
         s.cooling.hold = .latched ∧ 0 < (c 1 [0]).retriesLeft ∧ s.arbiter.table.vend.isGranted = true) := by decide

/-- A window left open by a supply abort closes: ABORTED, reason SUPPLY (R135). -/
theorem witness_WindowClosesAfterASupplyAbort :
    let s := inWindow 1 [0]
    let t := { s with vend := { s.vend with context := s.vend.context.map fun c => { c with supplyAborted := true } } }
    (t.vend.context.map fun c => (c.supplyAborted, c.dropSeen, c.window)) =
        some (true, none, .opened (some { elapsed := 0, limit := 1200 })) ∧
      ending .dropWindowClose t = some (.aborted, some .supply) := by
  decide

/-- The turning lane's machine is lawful, and a step keeps the part running. -/
theorem witness_DriveLawsAreKept :
    let s := { turning 0 laneA with pending := [.nop 0] }
    s.LanesLawful ∧ s.DriveLawful ∧ s.VendLawful ∧ step s = .next (after (.nop 0) (turning 0 laneA)) ∧
      (after (.nop 0) (turning 0 laneA)).supply.power = .running := by
  refine ⟨shop_lanesLawful, ⟨rfl, by decide, by decide, rfl, Or.inr rfl⟩, ⟨by decide, by decide, ?_⟩, rfl, rfl⟩
  exact ⟨rfl, (by intro t h; cases h), rfl, fun _ => rfl⟩

/-! ### Money, tubes and payouts -/

theorem witness_CoinsAreCheckedInOrder :
    let off := { shop with coins := { shop.coins with acceptance := false } }
    let low := { shop with machine := { shop.machine with creditCeiling := 79 } }
    let exact := { shop with tubes := { purse with exactChange := true } }
    shop.supply.power = .running ∧ (quiet.supply.quiet = true ∧ quiet.supply.wakeCoin = true ∧ quiet.session.state = .idle) ∧
      (let q := { quiet with supply := { quiet.supply with wakeCoin := false } }
       q.supply.quiet = true ∧ q.supply.wakeCoin = false) ∧
      (paying (plan1 5) false).session.state = .paying ∧ service.supply.door = .opened ∧ off.coins.acceptance = false ∧
      (inSlot .cashbox).coins.slot ≠ none ∧ (underRail.supply.underLevel = true ∧ underRail.session.state = .idle) ∧
      (shop.session.state = .opened ∧ shop.supply.quiet = false ∧ shop.supply.door = .closed ∧
        shop.coins.acceptance = true ∧ shop.coins.slot = none ∧ shop.supply.underLevel = false ∧
        shop.supply.overLevel = false) ∧
      shop.coins.table[(15 : CoinTypeNo)].value = 0 ∧ shop.coins.table[(2 : CoinTypeNo)].inhibit = true ∧
      (low.coins.table[(0 : CoinTypeNo)].value = 10 ∧ low.machine.creditCeiling < low.session.total + 10) ∧
      (exact.tubes.exactChange = true ∧ exact.coins.table[(1 : CoinTypeNo)].changeDependent = true) ∧
      (shop.coins.table[(0 : CoinTypeNo)] =
          { value := 10, destination := .tube 1, inhibit := false, changeDependent := false } ∧
        shop.session.total + 10 ≤ shop.machine.creditCeiling ∧ shop.tubes.exactChange = false ∧
        (shop.tube 1).presence = .active ∧ (shop.tube 1).count < (shop.tube 1).capacity ∧
        (shop.tube 1).fullCovered = false ∧ (shop.tube 1).value = 10) ∧
      (shop.coins.table[(1 : CoinTypeNo)].destination = .cashbox ∧ shop.tubes.exactChange = false) := by decide

theorem witness_CoinInTransitIsConfirmedOrLost :
    shop.supply.power = .running ∧ shop.coins.slot = none ∧
      (inSlot .cashbox).coins.slot =
        some { type := 0, value := 10, route := .cashbox, timer := { elapsed := 0, limit := 300 } } ∧
      (inSlot (.tube 1)).coins.slot =
        some { type := 0, value := 10, route := .tube 1, timer := { elapsed := 0, limit := 300 } } ∧
      ((inSlot (.tube 1)).tube 1).presence ≠ .absent ∧ ((inSlot (.tube 0)).tube 0).presence = .absent ∧
      idleShop.session.state = .idle ∧ shop.session.state ≠ .idle := by decide

theorem witness_CoinRouterRequestsWriteTheirOwnRecord :
    shop.TakesFrames ∧ 2 < (3#8).toNat ∧ 15 < (16#8).toNat ∧ (5 < (6#8).toNat ∧ (6#8) ≠ 0xFF#8) ∧
      (15#8).toNat = (15 : CoinTypeNo).val ∧ (5#8).toNat = (5 : TubeNo).val := ⟨shop_takes, by decide⟩

theorem witness_CashlessGrantIsHeldToTheHeadroom :
    let wakes := { quiet with supply := { quiet.supply with wakeCashless := true } }
    shop.TakesFrames ∧ (quiet.supply.quiet = true ∧ quiet.supply.wakeCashless = false) ∧
      (wakes.supply.quiet = true ∧ wakes.supply.wakeCashless = true) ∧
      (paying (plan1 5) false).session.state = .paying ∧
      (idleShop.supply.quiet = false ∧ idleShop.session.state = .idle ∧ min (0#16).toNat idleShop.headroom = 0 ∧
        0 < min (1#16).toNat idleShop.headroom) ∧
      (shop.supply.quiet = false ∧ shop.session.state = .opened) := ⟨shop_takes, by decide⟩

theorem witness_CancelAndTimeoutSettleTheSession :
    let vending := after (.vend 0#16) shop
    let noCoins := { shop with session := { credit with coin := 0 } }
    let behind := { shop with payout := (paying (plan1 5) false).payout }
    let late := { shop with session := { credit with timer := some { elapsed := 60000, limit := 60000 } } }
    shop.TakesFrames ∧ idleShop.session.state = .idle ∧ vending.session.state = .vending ∧
      (noCoins.session.state = .opened ∧ noCoins.session.coin = 0) ∧
      (shop.session.state = .opened ∧ 0 < shop.session.coin ∧ shop.payout.order = none) ∧ behind.payout.order ≠ none ∧
      shop.session.timer = none ∧ ((late.session.timer.map (·.overtaken)) = some false ∧ 0 < late.session.cashless) ∧
      idleShop.session.cashless = 0 := ⟨shop_takes, by decide⟩

/-- A timer that is due with a coin in transit, and the timer that the coin's confirmation starts. -/
theorem witness_TimeoutMeetsActivity :
    let x : Timer := { elapsed := 60000, limit := 60000 }
    let s := { inSlot .cashbox with session := { credit with timer := some x } }
    s.supply.power = .running ∧ s.session.timer = some x ∧ x.limit ≤ x.elapsed ∧ s.session.state = .opened ∧
      s.coins.slot ≠ none ∧ s.port.link ≠ .held ∧ s.supply.quiet = false ∧
      ((after .acceptSensorPulse s).session.timer.map (·.overtaken)) = some true ∧
      exec .acceptSensorPulse s = .next (after .acceptSensorPulse s) :=
  ⟨rfl, rfl, by decide, rfl, by decide, by decide, rfl, by decide, rfl⟩

/-- The machine whose credit is what its Session Record says. -/
theorem shop_moneyLawful : shop.MoneyLawful := by
  refine ⟨⟨rfl, rfl⟩, fun _ => ⟨⟨fun _ => ⟨rfl, rfl⟩, ?_, ?_, ?_, ?_⟩, ?_, ⟨rfl, ?_⟩⟩⟩
  · intro h; cases h
  · intro h; cases h
  · intro h; cases h
  · intro h; cases h
  · intro h; cases h
  · intro h; cases h

theorem witness_MoneyLawsAreKept :
    { shop with pending := [.cancel] }.MoneyLawful ∧
      step { shop with pending := [.cancel] } = .next (after .cancel shop) := ⟨shop_moneyLawful, rfl⟩

theorem witness_TubeRequestsWriteTheTubeRecord :
    let faulted := shop.setTube 1 { tubeA with presence := .fault }
    shop.TakesFrames ∧ 5 < (6#8).toNat ∧ (1#8).toNat = (1 : TubeNo).val ∧ (shop.tube 0).value = 0 ∧
      (shop.tube 1).value ≠ 0 ∧
      ((0#8).toNat < ((paying (plan1 5) false).tube 1).committed ∧ (shop.tube 1).committed ≤ (0#8).toNat) ∧
      (faulted.tube 1).presence = .fault ∧ (shop.tube 1).presence ≠ .fault ∧
      (paying (plan1 5) false).payout.order ≠ none ∧ shop.payout.order = none ∧ shop.tubes.cassette = .seated :=
  ⟨shop_takes, by decide⟩

theorem witness_LevelSensorsClampTheCount :
    let p := paying (plan1 5) false
    let r := { (p.tube 1) with count := 20, lowCovered := true }
    let s := p.setTube 1 r
    let w := waitingOrder.setTube 1 { (waitingOrder.tube 1) with lowCovered := true }
    shop.supply.power = .running ∧ (shop.tube 1).lowCovered = false ∧ (shop.tube 0).presence = .absent ∧
      ((s.tube 1).lowCovered = true ∧ (s.tube 1).presence ≠ .absent ∧
        ({ r with lowCovered := false } : Tube).clampLow.count = 3 ∧
        ({ r with lowCovered := false } : Tube).clampLow.count < r.committed) ∧
      ((p.payout.order.bind (·.awaited)) ≠ none) ∧
      (w.payout.order.isSome = true ∧ (w.payout.order.bind (·.awaited)) = none ∧ (w.tube 1).committed = 5) ∧
      (tubeA.lowMark ≠ 0 ∧ Tube.initial.lowMark = 0 ∧ tubeA.fullCovered = false ∧
        ({ tubeA with fullCovered := true } : Tube).clampFull.count = 50 ∧ tubeA.committed ≤ 50) := by decide

theorem witness_CassetteStateFollowsTheContacts :
    let out := { shop with tubes := { purse with contactFirst := false, contactSecond := true, cassette := .partlySeated } }
    shop.supply.power = .running ∧ shop.tubes.contactFirst = true ∧ shop.tubes.contactSecond = true ∧
      shop.tubes.cassette = .seated ∧ shop.payout.order = none ∧ (paying (plan1 5) false).payout.order ≠ none ∧
      (out.tubes.contactFirst = false ∧ out.tubes.contactSecond = true ∧ out.tubes.cassette = .partlySeated) ∧
      (0 : Fin 4).val = out.machine.expectedCode ∧ (3 : Fin 4).val ≠ out.machine.expectedCode ∧
      (State.reset.tubes.contactFirst = false ∧ State.reset.tubes.cassette = .removed) := by decide

theorem witness_CommitmentsStayWithinCounts :
    { paying (plan1 5) false with pending := [.payoutSensorPulse] }.CommitmentsLawful ∧
      step { paying (plan1 5) false with pending := [.payoutSensorPulse] } =
        .next (after .payoutSensorPulse (paying (plan1 5) false)) :=
  ⟨⟨by decide, fun h => by cases h⟩, rfl⟩

theorem witness_PlansStayWithinTheBasis :
    let dip := { purse with tubes := purse.tubes.set 1 { tubeA with reserve := 18 } }
    purse.tubes[(0 : Fin 6)].value = 0 ∧ (dip.fullPlan 30).reserveDipped = true ∧ (purse.fullPlan 30).remaining = 0 ∧
      (purse.fullPlan 30).reserveDipped = false ∧ purse.paysExactly 30 = true := by decide

/-- Five coins of 20 in tube 0 and one of 50 in tube 1, none kept in reserve. -/
def twoTubes : TubeTable :=
  { purse with
    tubes :=
      (purse.tubes.set 0 { Tube.initial with value := 20, presence := .active, count := 5, capacity := 50 }).set 1
        { Tube.initial with value := 50, presence := .active, count := 1, capacity := 50 } }

/-- Of 60 the greedy fill takes the 50 and leaves 10; its back-off trial pays three of 20 (R76, R77). Of 65 none is exact,
and the trial with three of 20 leaves 5 where the fill leaves 15 (R78). -/
theorem witness_PlansBackOffAndLeaveTheLeast :
    (twoTubes.planTubes true).map (·.tube) = [1, 0] ∧ greedyFill (twoTubes.planTubes true) 60 =
        { coins := [1, 0], remaining := 10 } ∧
      (twoTubes.fullPlan 60).coins = (Vector.replicate 6 0).set 0 3 ∧ (twoTubes.fullPlan 60).remaining = 0 ∧
      greedyFill (twoTubes.planTubes false) 65 = { coins := [1, 0], remaining := 15 } ∧
      (twoTubes.fullPlan 65).coins = (Vector.replicate 6 0).set 0 3 ∧ (twoTubes.fullPlan 65).remaining = 5 := by decide

theorem witness_OrdersPlanCommitAndWait :
    let empty := service.setTube 1 { tubeA with count := 0 }
    let broke := { shop with session := { credit with coin := 5 } }
    (service.TakesFrames ∧ 5 < (6#8).toNat ∧ (1#8).toNat = (1 : TubeNo).val ∧ quiet.supply.quiet = true ∧
      idleShop.supply.door = .closed ∧ (service.supply.door = .opened ∧ service.supply.quiet = false) ∧
      (let busy := { service with session := credit }
       busy.session.state ≠ .idle) ∧
      (service.session.state = .idle ∧ service.payout.order = none ∧ (service.tube 0).value = 0 ∧
        (service.tube 1).value ≠ 0 ∧ service.arbiter.table.payout = .idle ∧
        0 < min (max 1 (0#8).toNat) ((service.tube 1).count - (service.tube 1).committed)) ∧
      (empty.tube 1).count = 0) ∧
      (shop.payout.order = none ∧ shop.arbiter.table.payout = .idle ∧
        (∃ n : Fin 6, (shop.tubes.fullPlan shop.session.coin).coins[n] ≠ 0)) ∧
      ((∀ n : Fin 6, (broke.tubes.fullPlan broke.session.coin).coins[n] = 0) ∧ 0 < broke.session.coin) :=
  ⟨⟨takes _ rfl (by decide), by decide⟩, ⟨by decide, by decide, ⟨1, by decide⟩⟩, by decide, by decide⟩

theorem witness_PayoutCoinsAreConfirmedRetriedOrFaulted :
    let p := paying (plan1 5) false
    let last := paying (plan1 1) false
    let a : Awaited := { tube := 1, retry := false, timer := { elapsed := 0, limit := 250 } }
    let o : Order := { newOrder .session 50 none (plan1 5) false with state := .paying, awaited := some a }
    p.supply.power = .running ∧ waitingOrder.payout.order.bind (·.awaited) = none ∧
      (p.payout.order = some o ∧ o.awaited = some a ∧ a.retry = false ∧ o.replanDue = false ∧ o.source = .session) ∧
      (((paying (plan1 5) true).payout.order.bind (·.awaited)).map (·.retry)) = some true ∧
      ((plan1 5).set 1 4)[(1 : TubeNo)] ≠ 0 ∧ (p.tube 1).value ≠ 0 ∧
      (∀ j : TubeNo, ((plan1 5).set 1 4)[j] ≠ 0 → (p.tube j).value < (p.tube 1).value ∨
        ((p.tube j).value = (p.tube 1).value ∧ 1 ≤ j)) ∧
      (last.payout.order.isSome = true ∧ (∀ k : TubeNo, ((plan1 1).set 1 0)[k] = 0) ∧ last.payout.held = false ∧
        last.vend.context = none) := by decide

/-- A coin awaited whose limit is due, the one pulsed in the event that confirms it, and the one pulsed in the event of
its tube's fault. -/
theorem witness_PayoutEventsThatMeet :
    let due (retry : Bool) (plan : Vector Nat 6) : State :=
      { (paying plan retry).setTube 0 { tubeA with value := 5, committed := 1 } with
        payout :=
          { shop.payout with
            order :=
              some
                { newOrder .session 50 none plan false with
                  state := .paying
                  awaited := some { tube := 1, retry := retry, timer := { elapsed := 250, limit := 250 } } } } }
    let p := (plan1 1).set 0 1
    ((due false p).supply.power = .running ∧
      ((due false p).payout.order.bind (·.awaited)) =
        some { tube := 1, retry := false, timer := { elapsed := 250, limit := 250 } }) ∧
      (((after .payoutSensorPulse (due false p)).payout.order.bind (·.awaited)).map (·.timer.overtaken)) = some true ∧
      (((after .payoutCoinLimitExpiry (due true p)).payout.order.bind (·.awaited)).map (·.afterFault)) = some true ∧
      exec .payoutSensorPulse (due false p) = .next (after .payoutSensorPulse (due false p)) :=
  ⟨by decide, by decide, by decide, rfl⟩

theorem witness_ReplansAndTheBudgetWaitOfAnOrder :
    let r := (paying (plan1 5) false).committing (Vector.replicate 6 0)
    let empty := (paying (plan1 5) false).setTube 1 { tubeA with count := 0 }
    (paying (plan1 5) false).payout.order.isSome = true ∧
      (r.tubes.fullPlan 50).coins[(1 : Fin 6)] = 5 ∧
      ((empty.committing (Vector.replicate 6 0)).tubes.fullPlan 50).coins = Vector.replicate 6 0 ∧
      waitingOrder.supply.power = .running ∧ (waitingOrder.payout.order.bind (·.budgetWait)) ≠ none ∧
      waitingOrder.payout.held = false ∧ waitingOrder.vend.context = none ∧
      ((paying (plan1 5) false).payout.order.bind (·.budgetWait)) = none := by decide

/-- An order of 50 units on its last coin, 40 units paid, a session payout held behind it. -/
def heldBehind (source : PayoutSource) (a : Option Awaited) (wait : Option Timer) : State :=
  { paying (plan1 1) false with
    session := { credit with cashless := 0, state := .paying }
    payout :=
      { shop.payout with
        held := true
        order :=
          some
            { newOrder source 50 none (plan1 1) false with
              state := .paying, paid := 40, paidPerTube := plan1 4, awaited := a, budgetWait := wait } } }

/-- The order that ends releases the payout held behind it: one for the whole coin credit of 50 (R80, R90). -/
theorem witness_HeldPayoutIsReleased :
    let s := heldBehind .dispense (some { tube := 1, retry := false, timer := { elapsed := 0, limit := 250 } }) none
    let w := heldBehind .dispense none (some { elapsed := 5000, limit := 5000 })
    (s.payout.held = true ∧ s.payout.order.isSome = true ∧ (s.payout.order.bind (·.awaited)).isSome = true ∧
      (∀ k : TubeNo, ((plan1 1).set 1 0)[k] = 0) ∧ s.vend.context = none ∧
      ((after .payoutSensorPulse s).payout.order.map fun o => (o.source, o.asked)) = some (.session, 50) ∧
      (after .payoutSensorPulse s).payout.held = false ∧ (after .payoutSensorPulse s).session.state = .paying) ∧
      (w.payout.held = true ∧ (w.payout.order.bind (·.budgetWait)) ≠ none ∧ w.vend.context = none ∧
        ((after .payoutBudgetWaitExpiry w).payout.order.map fun o => (o.source, o.asked)) = some (.session, 50)) := by
  decide

/-- A DISPENSE order on its last coin beside a VEND of 60 units of demand on the held lane 1, with 10 of the coins in
escrow. -/
def orderBesideVend : State :=
  let s := heldBehind .dispense (some { tube := 1, retry := false, timer := { elapsed := 0, limit := 250 } }) none
  { s with
    payout := { s.payout with held := false }
    session := { credit with coin := 40, escrowCoin := 10, state := .vending }
    vend := { s.vend with context := some { service.serviceContext .testVend 1 with kind := .vend, price := 10 } }
    cooling := { s.cooling with hold := .latched }
    arbiter := { s.arbiter with table := { s.arbiter.table with vend := .waiting 60 } } }

/-- The release at an order's end grants a VEND whose lane is held: it ends FAILED, its escrow returned, within the end of
the order (R90, R106, R132); a supply event ends both, the VEND ABORTED (R91, R135). -/
theorem witness_OrderEndsBesideAVend :
    let t := after .payoutSensorPulse orderBesideVend
    let u := after (.supplyEvent .under 18999) orderBesideVend
    (orderBesideVend.payout.order.map (·.source)) = some .dispense ∧
      (orderBesideVend.vend.context.map fun c => (c.kind, c.dropSeen)) = some (.vend, none) ∧
      t.payout.order = none ∧ t.vend.context = none ∧ (t.session.state, t.session.coin) = (.opened, 50) ∧
      ending .payoutSensorPulse orderBesideVend = some (.failed, some .held) ∧
      u.payout.order = none ∧ u.vend.context = none ∧ (u.session.state, u.session.coin) = (.opened, 50) ∧
      (u.payout.record.map (·.cause)) = some .supply := by decide

/-- A supply event on a DISPENSE order with a session payout held behind it: the SESSION order of 50 is created, and waits
(R80, R90, R91, log entry 12). -/
theorem witness_SupplyEventWithAHeldPayout :
    let s := heldBehind .dispense (some { tube := 1, retry := false, timer := { elapsed := 0, limit := 250 } }) none
    let t := after (.supplyEvent .under 18999) s
    s.payout.held = true ∧ s.vend.context = none ∧
      (t.payout.order.map fun o => (o.source, o.asked, o.state)) = some (.session, 50, .waitGrant) ∧
      t.session.state = .paying := by decide

/-! ### Cooling -/

theorem witness_SamplesFilterAndFaultAChannel :
    let faulting := withCooling { rest with cabinet := { reading 30 with faultRun := 2 } }
    let recovering := withCooling { rest with cabinet := { reading 30 with status := .fault, validRun := 2 } }
    let hot := { heating with cooling := { heating.cooling with coil := reading 76 } }
    shop.supply.power = .running ∧ (-401 : Int) < -400 ∧ (1250 : Int) < 1251 ∧ (-400 : Int) ≤ -400 ∧ (1250 : Int) ≤ 1250 ∧
      (faulting.cooling.cabinet.status = .ok ∧ 3 ≤ faulting.cooling.cabinet.faultRun + 1) ∧
      (shop.cooling.cabinet.status = .ok ∧ shop.cooling.cabinet.filtered = none ∧
        shop.cooling.cabinet.faultRun + 1 < 3) ∧
      (recovering.cooling.cabinet.status = .fault ∧ 3 ≤ recovering.cooling.cabinet.validRun + 1) ∧
      (hot.cooling.defrost = .heating ∧ (after (.thermistorSample .coil (.temperature 92)) hot).cooling.coil.filtered =
        some 80 ∧ hot.cooling.settings.termination = 80 ∧ hot.cooling.settings.drip ≠ 0) ∧
      shop.cooling.defrost ≠ .heating := by decide

theorem witness_CoolingRequestsAreAnswered :
    let held (t : Int) : State := withCooling { rest with hold := .latched, cabinet := reading t }
    let timing := withCooling { rest with hold := .timing, holdTimer := 60000, cabinet := reading 81 }
    shop.TakesFrames ∧ shop.cooling.hold = .clear ∧
      ((held 50).cooling.hold ≠ .clear ∧ (held 50).cooling.cabinet.status = .ok ∧
        (held 50).cooling.cabinet.filtered = some 50 ∧
        (50 : Int) ≤ (held 50).effectiveSetpoint + (held 50).cooling.settings.differential) ∧
      (held 51).effectiveSetpoint + (held 51).cooling.settings.differential < 51 ∧ heating.cooling.defrost ≠ .none ∧
      (shop.cooling.defrost = .none ∧ shop.cooling.compressor = .offResting ∧ shop.arbiter.table.defrost = .idle) ∧
      (runningCompressor.cooling.compressor = .running ∧ runningCompressor.cooling.minimumRun ≠ none) ∧
      (1 < (2#8).toNat ∧ (1#8).toNat ≤ 1) ∧
      (timing.cooling.hold = .timing ∧ timing.cooling.cabinet.filtered ≠ none ∧
        max 1 (min 240 (1#8).toNat) * 60000 ≤ timing.cooling.holdTimer) ∧
      (let u := withCooling { rest with hold := .timing, holdTimer := 60000 }
       u.cooling.cabinet.status = .ok ∧ u.cooling.cabinet.filtered = none ∧ u.cooling.hold = .timing ∧
         max 1 (min 240 (1#8).toNat) * 60000 ≤ u.cooling.holdTimer ∧
         u.cooling.holdTimer < max 1 (min 240 (30#8).toNat) * 60000) :=
  ⟨shop_takes, by decide⟩

/-- A call that turns on in OFF_IDLE asks for 45 and is granted it; one that turns off in WAIT_BUDGET withdraws; one that
turns off after minimum run stops the compressor (R144, R146, R147). -/
theorem witness_CompressorAnswersItsCall :
    let off := withCooling { rest with compressor := .offIdle, minimumOff := none, cabinet := reading 49 }
    let waits (k : Cooling) : State :=
      { withCooling { k with compressor := .waitBudget, minimumOff := none, call := true } with
        arbiter := { idleShop.arbiter with table := { idleShop.arbiter.table with compressor := .waiting 45 } } }
    let on := { runningCompressor with cooling := { runningCompressor.cooling with minimumRun := none, cabinet := reading 31 } }
    let sample (t : Int) : Instr := .thermistorSample .cabinet (.temperature t)
    (off.cooling.call = false ∧ off.cooling.compressor = .offIdle ∧ off.arbiter.table.compressor = .idle ∧
        (after (sample 100) off).cooling.call = true ∧
        (after (sample 100) off).arbiter.table.compressor = .granted 45 45) ∧
      ((waits { rest with cabinet := reading 31 }).arbiter.table.compressor ≠ .idle ∧
        (after (sample 27) (waits { rest with cabinet := reading 31 })).cooling.call = false ∧
        (after (sample 27) (waits { rest with cabinet := reading 31 })).cooling.compressor = .offIdle ∧
        (after (sample 27) (waits { rest with cabinet := reading 31 })).arbiter.table.compressor = .idle) ∧
      ((after (sample 27) on).cooling.compressor = .offResting ∧ (after (sample 27) on).arbiter.table.compressor = .idle) ∧
      ((after .startDefrost (waits rest)).cooling.compressor = .offIdle ∧
        (after .startDefrost (waits rest)).arbiter.table.compressor = .idle ∧
        (after .startDefrost (waits rest)).cooling.defrost = .heating) ∧
      (let p : CoolingParams :=
          { setpoint := 30#16, differential := 20#8, setback := 30#8, holdLimit := 80#8, holdDelay := 30#8,
            minimumOff := 180#16, minimumRun := 120#16, startInterval := 3#8, defrostInterval := 6#8,
            termination := 80#8, maximumDefrost := 20#8, drip := 3#8, fallbackRun := 10#8, fallbackOff := 20#8,
            enabled := 0#8 }
       (after (.setCooling p) (waits { rest with cabinet := reading 60 })).cooling.compressor = .offIdle ∧
         (after (.setCooling p) on).cooling.compressor = .offResting) := by decide

/-- The fallback cycle's phases turn the call, and a sample that faults CABINET turns it on (R145). -/
theorem witness_FallbackPhases :
    let s (p : FallbackPhase) (call : Bool) : State :=
      withCooling { rest with call := call, fallback := some (p, { elapsed := 600000, limit := 600000 }) }
    ((s .on true).cooling.fallback.map (·.1)) = some .on ∧ ((s .off false).cooling.fallback.map (·.1)) = some .off ∧
      (after .fallbackPhaseEnd (s .off false)).cooling.call = true := by decide

theorem witness_CoolingExpiriesMoveTheirMachines :
    let calling := withCooling { rest with call := true, cabinet := reading 60 }
    let noCall := { runningCompressor with cooling := { runningCompressor.cooling with call := false } }
    let due := { runningCompressor with cooling := { runningCompressor.cooling with accumulatedRun := 21599 } }
    shop.supply.power = .running ∧ shop.cooling.compressor ≠ .starting ∧
      (startingCompressor.cooling.compressor = .starting ∧ startingCompressor.cooling.startInterval ≠ none ∧
        startingCompressor.arbiter.pendingBudget = none ∧
        startingCompressor.arbiter.table.compressor = .granted 45 45) ∧
      runningCompressor.cooling.compressor ≠ .offResting ∧
      (shop.cooling.compressor = .offResting ∧ shop.cooling.minimumOff ≠ none ∧ shop.cooling.call = false) ∧
      (calling.cooling.compressor = .offResting ∧ calling.cooling.minimumOff ≠ none ∧ calling.cooling.call = true ∧
        calling.cooling.settings.enabled = true ∧ calling.cooling.defrost = .none ∧
        calling.arbiter.table.compressor = .idle) ∧
      (runningCompressor.cooling.minimumRun ≠ none ∧ runningCompressor.cooling.compressor = .running ∧
        runningCompressor.cooling.yieldHeld = false ∧ runningCompressor.cooling.call = true ∧
        runningCompressor.cooling.settings.enabled = true ∧ runningCompressor.cooling.defrost ≠ .pending) ∧
      (noCall.cooling.compressor = .running ∧ noCall.cooling.call = false) ∧
      (min 86400 (runningCompressor.cooling.accumulatedRun + 1) <
        runningCompressor.cooling.settings.defrostInterval * 3600) ∧
      (due.cooling.settings.defrostInterval * 3600 ≤ min 86400 (due.cooling.accumulatedRun + 1) ∧
        due.cooling.defrost = .none ∧ due.cooling.minimumRun ≠ none) ∧
      shop.cooling.fallback = none ∧ heating.cooling.defrost = .heating ∧ heating.cooling.settings.drip ≠ 0 ∧
      ((dripping .offResting false).cooling.defrost = .dripping ∧ (dripping .offResting false).cooling.drip ≠ none ∧
        (dripping .offResting false).cooling.compressor = .offResting) ∧
      ((dripping .offIdle true).cooling.compressor = .offIdle ∧ (dripping .offIdle true).cooling.call = true ∧
        (dripping .offIdle true).cooling.settings.enabled = true ∧
        (dripping .offIdle true).arbiter.table.compressor = .idle) ∧
      shop.cooling.hold ≠ .timing ∧
      (let t := withCooling { rest with hold := .timing }
       t.cooling.hold = .timing ∧ t.cooling.defrost ≠ .heating ∧ t.cooling.defrost ≠ .dripping) := by decide

/-- A smaller budget that waits, which the running demand fits and the start does not (R146, R164). -/
theorem witness_PendingBudgetAtTheEndOfAStart :
    let a := { startingCompressor.arbiter with pendingBudget := some 20 }
    let s := { startingCompressor with arbiter := a }
    s.cooling.compressor = .starting ∧ s.cooling.startInterval ≠ none ∧ s.arbiter.pendingBudget = some 20 ∧
      s.arbiter.table.compressor = .granted 45 45 ∧
      (after .startIntervalEnd s).arbiter.budget = 20 ∧ (after .startIntervalEnd s).arbiter.pendingBudget = none := by
  decide

/-- A compressor past its minimum run whose next second reaches the defrost interval: the defrost begins. -/
theorem witness_DefrostIntervalReachedAfterMinimumRun :
    let due :=
      { runningCompressor with
        cooling := { runningCompressor.cooling with accumulatedRun := 21599, minimumRun := none } }
    due.cooling.compressor = .running ∧ due.cooling.defrost = .none ∧ due.cooling.minimumRun = none ∧
      due.cooling.settings.defrostInterval * 3600 ≤ min 86400 (due.cooling.accumulatedRun + 1) ∧
      (after .accumulatedRunCount due).cooling.defrost = .heating ∧
      (after .accumulatedRunCount due).cooling.accumulatedRun = 21600 := by decide

/-- The 120th second of a run completes as its minimum run does: it is counted before the run can stop (R146, R150). -/
theorem test_second_before_stop :
    let c :=
      { runningCompressor.cooling with
        call := false, minimumRun := some { elapsed := 120000, limit := 120000 }, runPhase := 1000, accumulatedRun := 119 }
    let s := { runningCompressor with cooling := c }
    s.due = some .accumulatedRunCount ∧ (after .accumulatedRunCount s).due = some .minimumRunExpiry ∧
      (after .minimumRunExpiry (after .accumulatedRunCount s)).cooling.accumulatedRun = 120 := by decide

theorem witness_CompressorAndHeaterAreNeverOnTogether :
    heating.cooling.Apart ∧
      step { heating with pending := [.maximumDefrostReached] } = .next (after .maximumDefrostReached heating) ∧
      exec .minimumRunExpiry runningCompressor = .next (after .minimumRunExpiry runningCompressor) ∧
      (shop.cooling.compressor = .offResting ∧ Instr.nop 0 ≠ .minimumOffEnd) :=
  ⟨⟨fun _ => rfl, fun h => by cases h⟩, rfl, rfl, rfl, by decide⟩

/-! ### An evaluation -/

/-- The machine with its grants and its cooling replaced. -/
def granting (p v c d : Entry) (k : Cooling) : State :=
  { withCooling k with
    arbiter :=
      { idleShop.arbiter with
        table := { payout := p, vend := v, compressor := c, compressorRun := 18, defrost := d } } }

/-- A compressor that runs, with its minimum run left or elapsed. -/
def runs (left : Option Timer) : Cooling :=
  { rest with compressor := .running, minimumOff := none, minimumRun := left, call := true, cabinet := reading 60 }

theorem quietVend {s : State} {g : GrantTable} (n : ∀ d, g.vend ≠ .waiting d) : ¬s.Yields g :=
  fun k => k.2.elim fun d h => n d h.1

theorem notNew {g h : GrantTable} {c : Consumer} (n : (h.entry c).isGranted ≠ true) : ¬g.Newly h c := fun k => n k.2

theorem payoutAlone {s : State} {g : GrantTable} (n : ¬s.arbiter.table.Newly g .payout) : s.PayoutTold g s.payout :=
  ⟨fun _ => rfl, fun k => absurd k n⟩

theorem vendAlone {s : State} {g : GrantTable} (n : ¬s.arbiter.table.Newly g .vend) : s.VendTold g s.vend s.drive :=
  ⟨fun _ => ⟨rfl, rfl⟩, fun k => absurd k n⟩

theorem coolingAlone {s : State} {g : GrantTable} (heats : Bool) (n : ¬s.arbiter.table.Newly g .compressor)
    (y : ¬s.Yields g) :
    s.CoolingTold g heats { s.cooling with defrost := if heats then .heating else s.cooling.defrost } :=
  fun _ he => ⟨fun k => absurd k n, fun _ => ⟨fun k => absurd k.1 y, fun _ => he.symm⟩⟩

theorem silent {f r : Prop} {l : Nat} {c : Consumer} {cs : List Consumer} {g h : GrantTable} (n : g.entry c = .idle)
    (k : GrantTable.Grants f r l cs g h) : GrantTable.Grants f r l (c :: cs) g h :=
  .silent (fun d e => by simp [n] at e) k

/-- The two tables of the worked example of 09 (budget 40, RWD): with FAIR off the defrost overtakes the vend that does
not fit, with FAIR on it waits behind it. -/
theorem witness_GrantsInOrder :
    let g := (granting (.granted 8 8) (.waiting 35) .idle (.waiting 25) rest).arbiter.table
    GrantTable.Grants False False 40 [.payout, .vend, .compressor, .defrost] g { g with defrost := .granted 25 25 } ∧
      GrantTable.Grants True False 40 [.payout, .vend, .compressor, .defrost] g g :=
  ⟨.silent (fun _ h => nomatch h) <| .waits id rfl (fun h => h.1) (by decide) <| silent rfl <|
      .fits rfl (fun h => h.1) (by decide) (.nobody _),
    .silent (fun _ h => nomatch h) <| .stops trivial rfl (fun h => h.1) (by decide)⟩

/-- A waiting order is granted its PAYOUT request of 8 and pulses its first coin, of 10 units from tube 1 (R83, R84). -/
theorem witness_EvaluationGrantsPayout :
    ∃ t, waitingOrder.Evaluated t ∧ t.arbiter.table.payout = .granted 8 8 ∧
      (t.payout.order.map fun o => (o.state, o.budgetWait, o.awaited)) =
        some (.paying, none, some { tube := 1, retry := false, timer := { elapsed := 0, limit := 250 } }) := by
  have y : ¬waitingOrder.Yields { waitingOrder.arbiter.table with payout := .granted 8 8 } := quietVend nofun
  have g : waitingOrder.Granting { waitingOrder.arbiter.table with payout := .granted 8 8 } :=
    .fits (d := 8) rfl (fun h => nomatch h.2.1) (by decide) <| silent rfl <| silent rfl <| silent rfl (.nobody _)
  exact ⟨_, ⟨_, false,
    ⟨g, _, _, _, _, ⟨fun h => absurd ⟨⟨8, rfl⟩, rfl⟩ h, fun _ => ⟨_, 1, rfl, rfl, by decide, by decide, by decide, rfl⟩⟩,
      vendAlone (notNew nofun), coolingAlone false (notNew nofun) y, rfl⟩,
    ⟨nofun, fun h => absurd h (notNew nofun)⟩, nofun, fun h => absurd h y⟩, rfl, rfl⟩

/-- A compressor in WAIT_BUDGET is granted its start demand of 45: STARTING, 3 s and 120 s begun (R146). -/
theorem witness_EvaluationGrantsCompressor :
    let s := granting .idle .idle (.waiting 45) .idle { runs none with compressor := .waitBudget }
    ∃ t, s.Evaluated t ∧ t.arbiter.table.compressor = .granted 45 45 ∧ t.cooling.compressor = .starting ∧
      t.cooling.startInterval = some { elapsed := 0, limit := 3000 } ∧
      t.cooling.minimumRun = some { elapsed := 0, limit := 120000 } := by
  intro s
  have y : ¬s.Yields { s.arbiter.table with compressor := .granted 45 45 } := quietVend nofun
  have g : s.Granting { s.arbiter.table with compressor := .granted 45 45 } :=
    silent rfl <| silent rfl <| .fits (d := 45) rfl (fun h => nomatch h.2.2.choose_spec.1) (by decide) <|
      silent rfl (.nobody _)
  exact ⟨_, ⟨_, false,
    ⟨g, _, _, _,
      { s.cooling with
        compressor := .starting, startInterval := some { elapsed := 0, limit := 3000 }
        minimumRun := some { elapsed := 0, limit := 120000 }, runPhase := 0 },
      payoutAlone (notNew nofun), vendAlone (notNew nofun), fun _ he => ⟨fun _ => ⟨rfl, by subst he; decide⟩, fun h => absurd ⟨⟨45, rfl⟩, rfl⟩ h⟩, rfl⟩,
    ⟨nofun, fun h => absurd h (notNew nofun)⟩, nofun, fun h => absurd h y⟩, rfl, rfl, rfl, rfl⟩

/-- A defrost in PAUSED is granted its demand of 25: HEATING with the coil cold (R152). -/
theorem witness_EvaluationGrantsDefrost :
    let s := granting .idle .idle .idle (.waiting 25) { rest with defrost := .paused }
    ∃ t, s.Evaluated t ∧ t.arbiter.table.defrost = .granted 25 25 ∧ t.cooling.defrost = .heating := by
  intro s
  have y : ¬s.Yields { s.arbiter.table with defrost := .granted 25 25 } := quietVend nofun
  have g : s.Granting { s.arbiter.table with defrost := .granted 25 25 } :=
    silent rfl <| silent rfl <| silent rfl <|
      .fits (d := 25) rfl (fun h => nomatch h.2.2.choose_spec.1) (by decide) (.nobody _)
  have n : ¬s.DefrostTerminates := by
    rintro (⟨-, x, h, -⟩ | h)
    · exact nomatch h
    · revert h; decide
  exact ⟨_, ⟨_, true,
    ⟨g, _, _, _, _, payoutAlone (notNew nofun), vendAlone (notNew nofun), coolingAlone true (notNew nofun) y, rfl⟩,
    ⟨fun _ => ⟨⟨25, rfl⟩, rfl⟩, fun _ => rfl⟩, fun _ => ⟨rfl, n⟩, fun h => absurd h y⟩, rfl, rfl⟩

/-- The coil at its termination of 80 when the grant comes: heating ends at once, DRIPPING with nothing granted (R152,
R153). -/
theorem witness_DefrostTerminatedAtItsGrant :
    let s := granting .idle .idle .idle (.waiting 25) { rest with defrost := .paused, coil := reading 80 }
    ∃ (g : GrantTable) (u t : State), s.Told g false u ∧ s.arbiter.table.Newly g .defrost ∧
      s.cooling.defrost = .paused ∧ s.DefrostTerminates ∧ ¬s.Yields g ∧ u.heatingEnded.Evaluated t ∧
      s.cooling.settings.drip ≠ 0 ∧ t.cooling.defrost = .dripping ∧ t.arbiter.table.defrost = .idle := by
  intro s
  have y : ¬s.Yields { s.arbiter.table with defrost := .granted 25 25 } := quietVend nofun
  have g : s.Granting { s.arbiter.table with defrost := .granted 25 25 } :=
    silent rfl <| silent rfl <| silent rfl <|
      .fits (d := 25) rfl (fun h => nomatch h.2.2.choose_spec.1) (by decide) (.nobody _)
  have u := (⟨g, _, _, _, _, payoutAlone (notNew nofun), vendAlone (notNew nofun), coolingAlone false (notNew nofun) y,
    rfl⟩ : s.Told _ false _)
  exact ⟨_, _, _, u, ⟨⟨25, rfl⟩, rfl⟩, rfl, .inl ⟨rfl, 80, rfl, by decide⟩, y,
    ⟨_, false, ⟨silent rfl <| silent rfl <| silent rfl <| silent rfl (.nobody _), _, _, _, _, payoutAlone (notNew nofun),
        vendAlone (notNew nofun), coolingAlone false (notNew nofun) (quietVend nofun), rfl⟩,
      ⟨nofun, fun h => absurd h (notNew nofun)⟩, nofun, fun _ => rfl⟩, by decide, rfl, rfl⟩

/-- A vend of 45 that does not fit beside what is held. -/
def waitingVend (c d : Entry) (k : Cooling) : State :=
  { granting .idle (.waiting 45) c d k with vend := waitingTest.vend }

/-- The yield that a waiting vend sends to a compressor within its minimum run is held (R150, R163). -/
theorem witness_YieldIsHeld :
    let s := waitingVend (.granted 45 18) .idle (runs (some { elapsed := 0, limit := 120000 }))
    ∃ t, s.Evaluated t ∧ t.arbiter.table = s.arbiter.table ∧ t.cooling.yieldHeld = true := by
  intro s
  have y : s.Yields s.arbiter.table := ⟨rfl, 45, rfl, by decide⟩
  have g : s.Granting s.arbiter.table :=
    silent rfl <| .waits (d := 45) nofun rfl (fun h => nomatch h.2.1) (by decide) <|
      .silent nofun <| silent rfl (.nobody _)
  have n : ∀ c, ¬s.arbiter.table.Newly s.arbiter.table c := by
    rintro c ⟨⟨d, h⟩, k⟩
    simp [h, Entry.isGranted] at k
  exact ⟨_, ⟨_, false,
    ⟨g, _, _, _, { s.cooling with yieldHeld := true }, payoutAlone (n _), vendAlone (n _),
      fun _ he => ⟨fun k => absurd k (n _), fun _ => ⟨fun _ => ⟨.inr ⟨rfl, nofun⟩, by subst he; rfl⟩,
        fun k => absurd ⟨y, rfl⟩ k⟩⟩, rfl⟩,
    ⟨nofun, fun h => absurd h (n _)⟩, nofun, fun _ => rfl⟩, rfl, rfl⟩

/-- A waiting vend of 45 alone, with a budget of 60, is granted, and its lane 0 switched on. -/
theorem vendEvaluated {a : State} (hv : a.vend = waitingTest.vend) (hl : a.lane 0 = some laneA)
    (ht : a.arbiter.table = (granting .idle (.waiting 45) .idle .idle rest).arbiter.table) (hb : a.arbiter.limit = 60) :
    ∃ t, a.Evaluated t ∧ t.arbiter = { a.arbiter with table := { a.arbiter.table with vend := .granted 45 45 } } ∧
      t.drive = { context := some (laneA.freshDrive 0), marker := some 0 } := by
  have g : a.Granting { a.arbiter.table with vend := .granted 45 45 } := by
    unfold State.Granting
    rw [ht, hb]
    exact silent rfl <| .fits (d := 45) rfl (fun h => nomatch h.2.1) (by decide) <| silent rfl <| silent rfl (.nobody _)
  have n : ∀ c, c ≠ .vend → ¬a.arbiter.table.Newly { a.arbiter.table with vend := .granted 45 45 } c := by
    rw [ht]
    intro c h
    cases c
    · exact notNew nofun
    · contradiction
    · exact notNew nofun
    · exact notNew nofun
  have y : ¬a.Yields { a.arbiter.table with vend := .granted 45 45 } := quietVend nofun
  exact ⟨_, ⟨_, false,
    ⟨g, _, _, _, _, payoutAlone (n _ nofun),
      ⟨fun h => absurd ⟨⟨45, by rw [ht]; rfl⟩, rfl⟩ h,
        fun _ => ⟨service.serviceContext .testVend 0, laneA, by rw [hv]; rfl, rfl, hl, .inl rfl, rfl, rfl⟩⟩,
      coolingAlone false (n _ nofun) y, rfl⟩,
    ⟨nofun, fun h => absurd h (n _ nofun)⟩, nofun, fun h => absurd h y⟩, rfl, rfl⟩

/-- A yield stops a compressor past its minimum run, and the vend is granted in the same event (R150, R163). -/
theorem witness_YieldStopsTheCompressor :
    let s := waitingVend (.granted 45 18) .idle (runs none)
    ∃ t, s.Granting s.arbiter.table ∧ s.PayoutTold s.arbiter.table s.payout ∧ s.Yields s.arbiter.table ∧
      s.cooling.compressor = .running ∧ s.cooling.minimumRun = none ∧ s.compressorStopped.Evaluated t ∧
      t.arbiter.table.vend = .granted 45 45 ∧ t.drive.marker = some 0 := by
  intro s
  have g : s.Granting s.arbiter.table :=
    silent rfl <| .waits (d := 45) nofun rfl (fun h => nomatch h.2.1) (by decide) <|
      .silent nofun <| silent rfl (.nobody _)
  obtain ⟨t, h, ha, hd⟩ := vendEvaluated (a := s.compressorStopped) rfl (by decide) (by decide) (by decide)
  exact ⟨t, g, payoutAlone (notNew nofun), ⟨rfl, 45, rfl, by decide⟩, rfl, rfl, h, by rw [ha], by rw [hd]⟩

/-- A yield pauses heating, the vend is granted, and the defrost asks again and waits (R154, R163). -/
theorem witness_YieldPausesTheDefrost :
    let s := waitingVend .idle (.granted 25 25) { rest with defrost := .heating }
    let a : State :=
      { s with
        cooling := { s.cooling with defrost := .paused }
        arbiter := s.arbiter.released { s.arbiter.table with defrost := .idle } }
    ∃ t, s.Granting s.arbiter.table ∧ s.PayoutTold s.arbiter.table s.payout ∧ s.Yields s.arbiter.table ∧
      s.cooling.defrost = .heating ∧ a.Evaluated t ∧ t.arbiter.table.vend = .granted 45 45 ∧
      t.defrostAsking.Evaluated t.defrostAsking := by
  intro s a
  have g : s.Granting s.arbiter.table :=
    silent rfl <| .waits (d := 45) nofun rfl (fun h => nomatch h.2.1) (by decide) <|
      silent rfl <| .silent nofun (.nobody _)
  obtain ⟨t, h, ha, -⟩ := vendEvaluated (a := a) rfl (by decide) (by decide) (by decide)
  refine ⟨t, g, payoutAlone (notNew nofun), ⟨rfl, 45, rfl, by decide⟩, rfl, h, by rw [ha], ?_⟩
  have b : t.defrostAsking.arbiter = (granting .idle (.granted 45 45) .idle (.waiting 25) rest).arbiter := by
    simp only [State.defrostAsking, ha]
    decide
  have n : ∀ c, ¬t.defrostAsking.arbiter.table.Newly t.defrostAsking.arbiter.table c := by
    rintro c ⟨⟨d, h⟩, k⟩
    simp [h, Entry.isGranted] at k
  have y : ¬t.defrostAsking.Yields t.defrostAsking.arbiter.table := quietVend (by rw [b]; nofun)
  refine ⟨t.defrostAsking.arbiter.table, false, ⟨?_, _, _, _, _, payoutAlone (n _), vendAlone (n _),
    coolingAlone false (n _) y, rfl⟩, ⟨nofun, fun h => absurd h (n _)⟩, nofun, fun h => absurd h y⟩
  unfold State.Granting
  rw [b]
  exact silent rfl <| .silent nofun <| silent rfl <|
    .waits (d := 25) nofun rfl (fun h => nomatch h.2.2.choose_spec.1) (by decide) (.nobody _)

/-! ### Budget, supply, settings and reads -/

theorem witness_GrantsStayWithinTheBudget :
    runningCompressor.arbiter.WithinBudget ∧
      step { runningCompressor with pending := [.startDefrost] } = .next (after .startDefrost runningCompressor) ∧
      underRail.supply.underLevel = true ∧ (inert true).supply.power ≠ .running :=
  ⟨⟨by decide, by decide⟩, rfl, rfl, by decide⟩

theorem witness_SettingsRequestsClampAndAnswer :
    shop.TakesFrames ∧ 1 < (2#8).toNat ∧ (1#8).toNat ≤ 1 ∧ (0#8).toNat ≤ 1 := ⟨shop_takes, by decide⟩

theorem witness_ReadsAnswerAndChangeNothing :
    let yes : Bool → Byte := fun b => if b then 0x01#8 else 0x00#8
    shop.TakesFrames ∧ yes true = 0x01#8 ∧ yes false = 0x00#8 ∧ 1 < (2#8).toNat := ⟨shop_takes, by decide⟩

theorem witness_QuietWakeDoorCellAndSupplyEvents :
    let overRail := { idleShop with supply := { idleShop.supply with overLevel := true } }
    (shop.TakesFrames ∧ quiet.TakesFrames) ∧ quiet.supply.quiet = true ∧
      (shop.supply.quiet = false ∧ shop.session.state ≠ .idle) ∧
      (idleShop.supply.quiet = false ∧ idleShop.session.state = .idle ∧ idleShop.vend.context = none ∧
        idleShop.payout.order = none ∧ idleShop.coins.slot = none ∧ idleShop.cooling.cabinet.status = .ok) ∧
      (shop.supply.power = .running ∧ shop.supply.door ≠ .opened) ∧
      (quiet.supply.wakeDoor = true ∧ quiet.supply.door ≠ .opened) ∧
      (18999 < 19000 ∧ 30000 < 30001) ∧
      ((paying (plan1 5) false).payout.order.isSome = true ∧ (paying (plan1 5) false).payout.held = false ∧
        (paying (plan1 5) false).vend.context = none) ∧
      (waitingTest.vend.context.isSome = true ∧ waitingTest.drive.context = none ∧
        (waitingTest.vend.context.map fun c => (c.supplyAborted, c.window)) = some (false, .closed)) ∧
      (runningCompressor.cooling.compressor = .running ∧ heating.cooling.defrost = .heating) ∧
      (underRail.supply.underLevel = true ∧ underRail.supply.overLevel = false) ∧
      (overRail.supply.overLevel = true ∧ overRail.supply.underLevel = false) :=
  ⟨⟨shop_takes, takes _ rfl (by decide)⟩, by decide⟩

/-- An undervoltage on a driven operation: the lane is OFF_HOME, and a turn waits T_drop in its window; a HOME_LANE, a turn
whose drop was seen and one with no window end at once; a turn already in its window keeps it (R135, R139, R167). -/
theorem witness_SupplyEventOnADrivenOperation :
    let e := Instr.supplyEvent .under 18999
    (let s := turning 0 laneA
     ((s.vend.context.map fun c => (c.current, c.phase, c.supplyAborted, c.window)) =
         some (0, .turning, false, .opened none)) ∧ s.drive.context = some (laneA.freshDrive 0) ∧
       (after e s).lane 0 = some { laneA with motor := .homed .offHome } ∧
       ((after e s).vend.context.map fun c => (c.phase, c.supplyAborted, c.window)) =
         some (.afterStop, true, .opened (some { elapsed := 0, limit := 1200 }))) ∧
      ending e (driven .homeLane none none false) = some (.aborted, some .supply) ∧
      ending e (driven .testVend (some 0) none false) = some (.vended, none) ∧
      ending e (turningUnsensed 0 laneA) = some (.aborted, some .supply) ∧
      ((after e (inWindow 0 [0])).vend.context.map fun c => (c.phase, c.supplyAborted, c.window)) =
        some (.afterStop, true, .opened (some { elapsed := 0, limit := 1200 })) := by decide

/-! ### Power, starts and the stored image -/

theorem witness_PowerWarningMakesThePartInert :
    (inSlot .cashbox).image.copy = none ∧ (inert true).supply.power ≠ .running ∧ loading.supply.power ≠ .running ∧
      (Instr.cancel ≠ .linkReset ∧ Instr.cancel ≠ .lrstNRelease ∧ Instr.cancel ≠ .rstNAssertion) ∧
      ({ shop.image with copy := some [0x50#8] } : ImagePort).copy = some [0x50#8] := by decide

set_option maxRecDepth 100000 in
/-- The memory that a store of the reset configuration leaves holds a valid image; an erased one holds none. -/
theorem witness_image_in_memory :
    (Image.ofBytes (Memory.readBlock imageLength 0 (Memory.writeBlock State.reset.imageOf.bytes []))).isSome = true ∧
      Image.ofBytes (Memory.readBlock imageLength 0 loading.image.memory) = none := ⟨rfl, rfl⟩

theorem witness_StartsResolveWhatWasInFlight :
    shop.supply.power ≠ .inert ∧ (inert false).supply.markerValid = false ∧
      ((inert true).supply.power = .inert ∧ (inert true).supply.markerValid = true) ∧ shop.supply.power ≠ .loading ∧
      loading.supply.power = .loading := by decide

/-- An erased memory holds no image; one that holds the bytes of an image holds that image. -/
theorem witness_StoredImageReadsBackAsItself :
    let fitted := { shop with image := { shop.image with fitted := true } }
    let running := { fitted with image := { fitted.image with copy := some shop.imageOf.bytes } }
    fitted.TakesFrames ∧ fitted.MemoryLawful ∧ shop.image.fitted = false ∧ fitted.image.fitted = true ∧
      fitted.image.copy = none ∧ running.image.copy = some shop.imageOf.bytes ∧ running.MemoryLawful ∧
      running.supply.power = .running ∧ 0 < 1 ∧
      step { fitted with pending := [.cancel] } = .next (after .cancel fitted) :=
  ⟨takes _ rfl (by decide), rfl, rfl, rfl, rfl, rfl, rfl, rfl, by decide, rfl⟩

/-- A store that fails at its first byte (R194): nothing written, the marker erased when it was taken. -/
theorem witness_StoreFailsAtItsFirstByte :
    let s := { shop with image := { shop.image with fitted := true, result := .running, copy := some [0x50#8, 0x33#8] } }
    Memory.read s.image.memory 0 = 0xFF#8 ∧ (after (.storeEnd (some 0)) s).image.memory = s.image.memory ∧
      (after (.storeEnd (some 0)) s).image.result = .writeFail := by decide

end Sys2Proof.Tests
end

section
/-! PROOFS. The requests on lane records and selection windows (01_the_lane_table.md): first what a frame, a checked
operand and one change of a record give, then each request taken and the statements. -/
namespace Sys2Proof.Machine

/-! ## A frame that is taken -/

theorem State.portOpen_of_takesFrames {s : State} (h : s.TakesFrames) : s.portOpen = true := by
  obtain ⟨power, link⟩ := h
  simp [State.portOpen, State.isRunning, power, link]

/-- Frames are taken on the strength of the supply and the port alone, so a change of other records keeps that. -/
theorem State.TakesFrames.congr {s t : State} (h : s.TakesFrames) (supply : t.supply = s.supply)
    (port : t.port = s.port) : t.TakesFrames := by
  unfold State.TakesFrames
  rwa [supply, port]

section
variable {c : Instr} {s : State} {n : Nat} {code : Byte} {f : State → Answer}

/-- A request that its owner takes: the state it left, with the reply pending. -/
theorem exec_ok {t : State} {payload : List Byte} (arm : exec c s = s.frame n code f) (h : s.TakesFrames)
    (taken : f s = Answer.ok payload t) : exec c s = .next (t.answered s n code .ok payload) := by
  rw [arm, State.frame, State.portOpen_of_takesFrames h, if_pos rfl, taken]
  rfl

/-- A request that its owner refuses: the state as it was, with the refusal pending. -/
theorem exec_refused {status : Status} (arm : exec c s = s.frame n code f) (h : s.TakesFrames)
    (refused : f s = Answer.refuse status s) : exec c s = .next (s.answered s n code status []) := by
  rw [arm, State.frame, State.portOpen_of_takesFrames h, if_pos rfl, refused]
  rfl

end

/-! ## The meaning of each request -/

section
variable (s : State) (lane window : Byte)

theorem exec_readLane : exec (.readLane lane) s = execReadLane lane s := rfl
theorem exec_setLane (p : LaneParams) : exec (.setLane lane p) s = execSetLane lane p s := rfl
theorem exec_setLink (alternate : Byte) : exec (.setLink lane alternate) s = execSetLink lane alternate s := rfl
theorem exec_restock (count : Byte) : exec (.restock lane count) s = execRestock lane count s := rfl
theorem exec_retireLane : exec (.retireLane lane) s = execRetireLane lane s := rfl
theorem exec_clearLaneFault : exec (.clearLaneFault lane) s = execClearLaneFault lane s := rfl
theorem exec_setWindow (p : WindowParams) : exec (.setWindow window p) s = execSetWindow window p s := rfl
theorem exec_readWindow : exec (.readWindow window) s = execReadWindow window s := rfl

end

/-! ## Operands in and out of their ranges -/

theorem index_of_toNat_eq {n : Nat} {b : Byte} {i : Fin n} (h : b.toNat = i.val) : index n b = some i := by
  simp [index, h]

theorem index_of_le {n : Nat} {b : Byte} (h : n ≤ b.toNat) : index n b = none := by
  simp [index, Nat.not_lt.mpr h]

theorem choice2_of_one_lt {b : Byte} (h : 1 < b.toNat) : choice2 b = none := by
  have notZero : b ≠ 0x00#8 := by rintro rfl; simp at h
  have notOne : b ≠ 0x01#8 := by rintro rfl; simp at h
  simp [choice2, notZero, notOne]

/-- A field of two choices that is in range names one of them. -/
theorem eq_zero_or_one_of_toNat_le {b : Byte} (h : b.toNat ≤ 1) : b = 0x00#8 ∨ b = 0x01#8 := by bv_omega

theorem choice2_of_eq_zero_or_one {b : Byte} (h : b = 0x00#8 ∨ b = 0x01#8) :
    choice2 b = some (decide (b ≠ 0x00#8)) := by
  rcases h with rfl | rfl <;> rfl

theorem laneOrNone_of_toNat_eq {b : Byte} {a : LaneNo} (h : b.toNat = a.val) : laneOrNone b = some (some a) := by
  have notNone : b ≠ 0xFF#8 := by rintro rfl; have := a.isLt; simp at h; omega
  simp [laneOrNone, notNone, index_of_toNat_eq h]

theorem laneOrNone_none : laneOrNone 0xFF#8 = some none := rfl

theorem laneOrNone_of_outside {b : Byte} (h : 79 < b.toNat) (notNone : b ≠ 0xFF#8) : laneOrNone b = none := by
  simp [laneOrNone, notNone, index_of_le (n := 80) h]

theorem exists_laneOrNone {b : Byte} (h : b.toNat ≤ 79 ∨ b = 0xFF#8) : ∃ a, laneOrNone b = some a := by
  rcases h with inside | rfl
  · exact ⟨_, laneOrNone_of_toNat_eq (a := ⟨b.toNat, by omega⟩) rfl⟩
  · exact ⟨none, laneOrNone_none⟩

/-- SET_LANE's configuration is refused for an enumerated field that names no choice (R15 check 2). -/
theorem laneConfigOf_of_outside {p : LaneParams}
    (h : 1 < p.stockMode.toNat ∨ 1 < p.laneClass.toNat ∨ 1 < p.motorKind.toNat) : laneConfigOf p = none := by
  unfold laneConfigOf laneClassOf
  rcases h with outside | outside | outside
  · rw [choice2_of_one_lt outside]
  · rw [choice2_of_one_lt outside]; cases choice2 p.stockMode <;> rfl
  · rw [choice2_of_one_lt outside]; cases choice2 p.stockMode <;> cases choice2 p.laneClass <;> rfl

/-- The configuration that SET_LANE's parameters give with their enumerated fields in range (R16). -/
def clampedConfig (p : LaneParams) : LaneConfig :=
  { price := p.price.toNat
    counted := decide (p.stockMode = 0x00#8)
    capacity := max 1 (min 99 p.capacity.toNat)
    laneClass := if p.laneClass = 0x00#8 then .ambient else .chilled
    timed := decide (p.motorKind ≠ 0x00#8)
    runTime := max 100 (min 10000 p.runTime.toNat)
    demand := if p.demand = 0x00#8 then 12 else min 40 p.demand.toNat
    duty := if p.duty = 0x0000#16 then 255 else max 64 (min 255 p.duty.toNat) }

/-- A demand in force is not 0, so only its upper limit can clamp it. -/
theorem clamp_demand {b : Byte} (h : b ≠ 0x00#8) : clamp 1 40 b.toNat = min 40 b.toNat := by
  have positive : 0 < b.toNat := by bv_omega
  unfold clamp
  omega

theorem laneConfigOf_eq_clampedConfig {p : LaneParams} (stock : p.stockMode = 0x00#8 ∨ p.stockMode = 0x01#8)
    (cls : p.laneClass = 0x00#8 ∨ p.laneClass = 0x01#8) (motor : p.motorKind = 0x00#8 ∨ p.motorKind = 0x01#8) :
    laneConfigOf p = some (clampedConfig p) := by
  have demand : (if p.demand = 0x00#8 then 12 else clamp 1 40 p.demand.toNat) = (clampedConfig p).demand :=
    ite_congr rfl (fun _ => rfl) clamp_demand
  simp only [laneConfigOf, laneClassOf, choice2_of_eq_zero_or_one stock, choice2_of_eq_zero_or_one cls,
    choice2_of_eq_zero_or_one motor, Option.map_some, demand]
  rcases cls with classIs | classIs <;> simp [clampedConfig, classIs, clamp]

theorem laneConfigOf_of_inside {p : LaneParams} (stock : p.stockMode.toNat ≤ 1) (cls : p.laneClass.toNat ≤ 1)
    (motor : p.motorKind.toNat ≤ 1) : laneConfigOf p = some (clampedConfig p) :=
  laneConfigOf_eq_clampedConfig (eq_zero_or_one_of_toNat_le stock) (eq_zero_or_one_of_toNat_le cls)
    (eq_zero_or_one_of_toNat_le motor)

/-- SET_WINDOW's window with its codes in order and in range, and its base lane in range (R12). -/
theorem windowOf_of_inside {p : WindowParams} {base : LaneNo} (isBase : p.baseLane.toNat = base.val)
    (inOrder : p.firstCode.toNat ≤ p.lastCode.toNat) (lastInside : p.lastCode.toNat ≤ 999) :
    windowOf p =
      some
        { firstCode := p.firstCode.toNat, lastCode := p.lastCode.toNat, baseLane := base
          enabled := yesNo p.enabled } := by
  simp [windowOf, index_of_toNat_eq isBase, inOrder, lastInside]

theorem windowOf_of_outside {p : WindowParams}
    (h : 999 < p.firstCode.toNat ∨ 999 < p.lastCode.toNat ∨ 79 < p.baseLane.toNat ∨
      p.lastCode.toNat < p.firstCode.toNat) : windowOf p = none := by
  unfold windowOf
  by_cases base : 79 < p.baseLane.toNat
  · rw [index_of_le base]
  · rw [index_of_toNat_eq (i := (⟨p.baseLane.toNat, by omega⟩ : LaneNo)) rfl]
    exact if_neg (by omega)

/-! ## The checks on the lane field (R15) -/

section
variable {s : State} {lane : Byte} {l : LaneNo} {act : LaneNo → FittedLane → Answer}

theorem State.onFittedLane_outOfRange (h : 79 < lane.toNat) :
    s.onFittedLane lane act = Answer.refuse .outOfRange s := by
  simp only [State.onFittedLane, index_of_le (n := 80) h]

theorem State.onFittedLane_notFitted (named : lane.toNat = l.val) (bare : s.lane l = none) :
    s.onFittedLane lane act = Answer.refuse .notFitted s := by
  simp only [State.onFittedLane, index_of_toNat_eq named, bare]

theorem State.onFittedLane_laneBusy (named : lane.toNat = l.val) (fitted : s.lane l ≠ none)
    (engaged : s.engaged l = true) : s.onFittedLane lane act = Answer.refuse .laneBusy s := by
  obtain ⟨f, isF⟩ := Option.ne_none_iff_exists'.mp fitted
  simp only [State.onFittedLane, index_of_toNat_eq named, isF, engaged, if_true]

theorem State.onFittedLane_taken {f : FittedLane} (named : lane.toNat = l.val) (isF : s.lane l = some f)
    (free : s.engaged l = false) : s.onFittedLane lane act = act l f := by
  simp only [State.onFittedLane, index_of_toNat_eq named, isF, free, Bool.false_eq_true, if_false]

/-! ## The checks of SET_LANE, and of the alternate of SET_LINK (R15, R18) -/

theorem State.setLaneAnswer_badLane {p : LaneParams} (h : 79 < lane.toNat) :
    s.setLaneAnswer lane p = Answer.refuse .outOfRange s := by
  simp only [State.setLaneAnswer, index_of_le (n := 80) h]

theorem State.setLaneAnswer_badChoice {p : LaneParams} (h : laneConfigOf p = none) :
    s.setLaneAnswer lane p = Answer.refuse .outOfRange s := by
  simp only [State.setLaneAnswer, h]
  cases index 80 lane <;> rfl

theorem State.setLaneAnswer_laneBusy {p : LaneParams} {c : LaneConfig} (named : lane.toNat = l.val)
    (config : laneConfigOf p = some c) (engaged : s.engaged l = true) :
    s.setLaneAnswer lane p = Answer.refuse .laneBusy s := by
  simp only [State.setLaneAnswer, index_of_toNat_eq named, config, engaged, if_true]

theorem State.setLaneAnswer_taken {p : LaneParams} {c : LaneConfig} (named : lane.toNat = l.val)
    (config : laneConfigOf p = some c) (free : s.engaged l = false) :
    s.setLaneAnswer lane p = (s.setLane l (some (c.record (s.lane l)))).laneAnswer l := by
  simp only [State.setLaneAnswer, index_of_toNat_eq named, config, free, Bool.false_eq_true, if_false]

theorem State.setLinkAnswer_badAlternate {alternate : Byte} (h : laneOrNone alternate = none) :
    s.setLinkAnswer lane alternate = Answer.refuse .outOfRange s := by
  simp only [State.setLinkAnswer, h]

/-- With its alternate field in range, SET_LINK goes on to the checks on the lane field. -/
theorem State.setLinkAnswer_checksLane {alternate : Byte} {a : Option LaneNo} (h : laneOrNone alternate = some a) :
    s.setLinkAnswer lane alternate = s.onFittedLane lane fun l f =>
      if s.linkAllowed l a then (s.setLane l (some { f with alternate := a })).laneAnswer l
      else Answer.refuse .badLink s := by
  simp only [State.setLinkAnswer, h]

theorem State.linkAllowed_some_iff (l a : LaneNo) (s : State) :
    s.linkAllowed l (some a) = true ↔ a ≠ l ∧ s.lane a ≠ none := by
  simp [State.linkAllowed, Option.isSome_iff_ne_none]

/-- Whichever of SET_LINK's two lane fields is found out of range first, the status is the same. -/
theorem State.setLinkAnswer_outOfRange {alternate : Byte} (h : 79 < lane.toNat) :
    s.setLinkAnswer lane alternate = Answer.refuse .outOfRange s := by
  cases alt : laneOrNone alternate with
  | none => exact State.setLinkAnswer_badAlternate alt
  | some a => rw [State.setLinkAnswer_checksLane alt, State.onFittedLane_outOfRange h]

theorem State.setLinkAnswer_notFitted {alternate : Byte} (h : alternate.toNat ≤ 79 ∨ alternate = 0xFF#8)
    (named : lane.toNat = l.val) (bare : s.lane l = none) :
    s.setLinkAnswer lane alternate = Answer.refuse .notFitted s := by
  obtain ⟨a, alt⟩ := exists_laneOrNone h
  rw [State.setLinkAnswer_checksLane alt, State.onFittedLane_notFitted named bare]

theorem State.setLinkAnswer_laneBusy {alternate : Byte} (h : alternate.toNat ≤ 79 ∨ alternate = 0xFF#8)
    (named : lane.toNat = l.val) (fitted : s.lane l ≠ none) (engaged : s.engaged l = true) :
    s.setLinkAnswer lane alternate = Answer.refuse .laneBusy s := by
  obtain ⟨a, alt⟩ := exists_laneOrNone h
  rw [State.setLinkAnswer_checksLane alt, State.onFittedLane_laneBusy named fitted engaged]

theorem State.setLinkAnswer_badLink {alternate : Byte} {a : LaneNo} (alt : alternate.toNat = a.val)
    (named : lane.toNat = l.val) (fitted : s.lane l ≠ none) (free : s.engaged l = false)
    (bad : a = l ∨ s.lane a = none) : s.setLinkAnswer lane alternate = Answer.refuse .badLink s := by
  obtain ⟨f, isF⟩ := Option.ne_none_iff_exists'.mp fitted
  have refused : ¬s.linkAllowed l (some a) = true := by
    intro allowed
    obtain ⟨other, linked⟩ := (State.linkAllowed_some_iff l a s).mp allowed
    exact bad.elim other linked
  rw [State.setLinkAnswer_checksLane (laneOrNone_of_toNat_eq alt), State.onFittedLane_taken named isF free,
    if_neg refused]

theorem State.setLinkAnswer_taken {alternate : Byte} {a : Option LaneNo} {f : FittedLane}
    (alt : laneOrNone alternate = some a) (named : lane.toNat = l.val) (isF : s.lane l = some f)
    (free : s.engaged l = false) (allowed : s.linkAllowed l a = true) :
    s.setLinkAnswer lane alternate = (s.setLane l (some { f with alternate := a })).laneAnswer l := by
  rw [State.setLinkAnswer_checksLane alt, State.onFittedLane_taken named isF free, if_pos allowed]

end

/-! ## What a change of the records leaves -/

/-- SET_LANE, RESTOCK and SET_LINK write the named lane's record and nothing else. -/
theorem State.setLane_frame (l : LaneNo) (r : LaneRecord) (s : State) :
    { s.setLane l r with lanes := { (s.setLane l r).lanes with records := s.lanes.records } } = s := rfl

theorem State.lane_setLane_self (l : LaneNo) (r : LaneRecord) (s : State) : (s.setLane l r).lane l = r := by
  rw [State.lane_setLane, if_pos rfl]

theorem State.lane_setLane_of_ne {l k : LaneNo} (h : k ≠ l) (r : LaneRecord) (s : State) :
    (s.setLane l r).lane k = s.lane k := by
  rw [State.lane_setLane, if_neg (Ne.symm h)]

theorem getElem_mapTable {α : Type} {n : Nat} (g : α → α) (v : Vector α n) (i : Fin n) :
    (mapTable g v)[i] = g v[i] := by
  simp [mapTable]

/-- After RETIRE_LANE the lane is UNFITTED and every other one is without its alternate when that names it (R20). -/
theorem State.lane_retire (l k : LaneNo) (s : State) :
    (s.retire l).lane k = unlink l (if l = k then none else s.lane k) := by
  rw [← State.lane_setLane l k none s]
  exact getElem_mapTable _ _ _

theorem State.lane_retire_self (l : LaneNo) (s : State) : (s.retire l).lane l = none := by
  rw [State.lane_retire, if_pos rfl]
  rfl

theorem State.lane_retire_of_ne {l k : LaneNo} (h : k ≠ l) (s : State) :
    (s.retire l).lane k = unlink l (s.lane k) := by
  rw [State.lane_retire, if_neg (Ne.symm h)]

theorem unlink_some (l : LaneNo) (g : FittedLane) :
    unlink l (some g) = some { g with alternate := if g.alternate = some l then none else g.alternate } := by
  unfold unlink
  by_cases names : g.alternate = some l <;> simp [names]

theorem State.retire_faultedCount {l : LaneNo} {s : State} {f : FittedLane} (isF : s.lane l = some f) :
    (s.retire l).lanes.faultedCount =
      if f.fault = none then s.lanes.faultedCount else s.lanes.faultedCount - 1 := by
  have count : (s.retire l).lanes.faultedCount =
      s.lanes.faultedCount - if isFaulted (s.lane l) = true then 1 else 0 := rfl
  rw [count, isF]
  cases cause : f.fault <;> simp [isFaulted, cause]

/-- A table is read through its indices in their order. -/
theorem toList_eq_map_finRange {α : Type} {n : Nat} (v : Vector α n) :
    v.toList = (List.finRange n).map fun k => v[k] :=
  List.ext_getElem (by simp) (by simp)

/-- The number in the reply of RETIRE_LANE counts the other lanes whose alternate names the lane (R20). -/
theorem State.linksTo_eq_countP (l : LaneNo) (s : State) {links : LaneNo → Bool}
    (linksAre : ∀ k, links k = (k != l && namesAlternate l (s.lane k))) :
    s.linksTo l = (List.finRange 80).countP links := by
  have named (k : LaneNo) : namesAlternate l ((s.setLane l none).lane k) = links k := by
    rw [linksAre, State.lane_setLane]
    by_cases same : l = k
    · simp [same, namesAlternate]
    · simp [same, Ne.symm same]
  unfold State.linksTo
  rw [← List.countP_eq_length_filter, toList_eq_map_finRange, List.countP_map]
  exact List.countP_congr fun k _ => by rw [← named k]; rfl

/-- A clearing of the fault leaves a HOMED lane OFF_HOME and a TIMED lane's motor as it was (R21). -/
theorem Motor.moveTo_offHome (m : Motor) :
    (∀ q, m = .homed q → m.moveTo .offHome = .homed .offHome) ∧ (∀ ms, m = .timed ms → m.moveTo .offHome = m) := by
  constructor
  · rintro q rfl; rfl
  · rintro ms rfl; rfl

theorem State.clearFault_active {l : LaneNo} {f : FittedLane} {s : State} (active : f.fault = none) :
    s.clearFault l f = s := by
  simp [State.clearFault, active]

theorem State.clearFault_faulted {l : LaneNo} {f : FittedLane} {s : State} (faulted : f.fault ≠ none) :
    s.clearFault l f =
      (s.setLane l (some { f with fault := none, motor := f.motor.moveTo .offHome })).dropFaulted true :=
  if_pos (Option.isSome_iff_ne_none.mpr faulted)

theorem State.clearFault_supply (l : LaneNo) (f : FittedLane) (s : State) : (s.clearFault l f).supply = s.supply := by
  unfold State.clearFault
  split <;> rfl

theorem State.clearFault_port (l : LaneNo) (f : FittedLane) (s : State) : (s.clearFault l f).port = s.port := by
  unfold State.clearFault
  split <;> rfl

/-! ## The lane requests taken -/

section
variable {s : State} {lane : Byte} {l : LaneNo}

theorem exec_readLane_taken (h : s.TakesFrames) (named : lane.toNat = l.val) :
    exec (.readLane lane) s = .next (s.answered s 2 0x11#8 .ok (s.laneFields l)) :=
  exec_ok (exec_readLane _ _) h (by simp only [index_of_toNat_eq named]; rfl)

theorem exec_setLane_taken {p : LaneParams} {c : LaneConfig} (h : s.TakesFrames) (named : lane.toNat = l.val)
    (config : laneConfigOf p = some c) (free : s.engaged l = false) :
    exec (.setLane lane p) s =
      .next ((s.setLane l (some (c.record (s.lane l)))).answered s 13 0x12#8 .ok
        ((s.setLane l (some (c.record (s.lane l)))).laneFields l)) :=
  exec_ok (exec_setLane _ _ _) h (State.setLaneAnswer_taken named config free)

variable {f : FittedLane}

theorem exec_setLink_taken {alternate : Byte} {a : Option LaneNo} (h : s.TakesFrames)
    (alt : laneOrNone alternate = some a) (named : lane.toNat = l.val) (isF : s.lane l = some f)
    (free : s.engaged l = false) (allowed : s.linkAllowed l a = true) :
    exec (.setLink lane alternate) s =
      .next ((s.setLane l (some { f with alternate := a })).answered s 3 0x13#8 .ok
        ((s.setLane l (some { f with alternate := a })).laneFields l)) :=
  exec_ok (exec_setLink _ _ _) h (State.setLinkAnswer_taken alt named isF free allowed)

theorem exec_restock_taken {count : Byte} (h : s.TakesFrames) (named : lane.toNat = l.val) (isF : s.lane l = some f)
    (free : s.engaged l = false) :
    exec (.restock lane count) s =
      .next ((s.setLane l (some { f with stock := f.stock.restocked count })).answered s 3 0x14#8 .ok
        ((s.setLane l (some { f with stock := f.stock.restocked count })).laneFields l)) :=
  exec_ok (exec_restock _ _ _) h (State.onFittedLane_taken named isF free)

theorem exec_retireLane_taken (h : s.TakesFrames) (named : lane.toNat = l.val) (isF : s.lane l = some f)
    (free : s.engaged l = false) :
    exec (.retireLane lane) s =
      .next ((s.retire l).answered s 2 0x15#8 .ok ((s.retire l).laneFields l ++ field 1 (s.linksTo l))) :=
  exec_ok (exec_retireLane _ _) h (State.onFittedLane_taken named isF free)

theorem exec_clearLaneFault_taken (h : s.TakesFrames) (named : lane.toNat = l.val) (isF : s.lane l = some f)
    (free : s.engaged l = false) :
    exec (.clearLaneFault lane) s =
      .next ((s.clearFault l f).answered s 2 0x16#8 .ok ((s.clearFault l f).laneFields l)) :=
  exec_ok (exec_clearLaneFault _ _) h (State.onFittedLane_taken named isF free)

end

/-! ## The record SET_LANE leaves -/

/-- A lane newly fitted by SET_LANE (R16, R3). -/
theorem clampedConfig_record_none (p : LaneParams) :
    ((clampedConfig p).record none).fault = none ∧ ((clampedConfig p).record none).alternate = none ∧
      ((clampedConfig p).record none).stock =
        (if p.stockMode = 0x00#8 then .counted 0 (max 1 (min 99 p.capacity.toNat)) else .uncounted false) ∧
      ((clampedConfig p).record none).motor =
        (if p.motorKind = 0x00#8 then .homed .offHome else .timed (max 100 (min 10000 p.runTime.toNat))) := by
  refine ⟨rfl, rfl, ?stock, ?motor⟩
  case stock => simp [LaneConfig.record, LaneConfig.fit, clampedConfig]
  case motor =>
    by_cases homed : p.motorKind = 0x00#8 <;> simp [LaneConfig.record, LaneConfig.fit, clampedConfig, homed]

theorem Stock.reconfigured_counted (p : LaneParams) (n cap : Nat) :
    (Stock.counted n cap).reconfigured (clampedConfig p) =
      if p.stockMode = 0x00#8 then
        .counted (min n (max 1 (min 99 p.capacity.toNat))) (max 1 (min 99 p.capacity.toNat))
      else .uncounted (decide (n = 0)) := by
  simp [Stock.reconfigured, clampedConfig]

theorem Stock.reconfigured_uncounted (p : LaneParams) (soldOut : Bool) :
    (Stock.uncounted soldOut).reconfigured (clampedConfig p) =
      if p.stockMode = 0x00#8 then .counted 0 (max 1 (min 99 p.capacity.toNat)) else .uncounted soldOut := by
  simp [Stock.reconfigured, clampedConfig]

theorem Motor.reconfigured_timed {p : LaneParams} (timed : p.motorKind = 0x01#8) (m : Motor) :
    m.reconfigured (clampedConfig p) = .timed (max 100 (min 10000 p.runTime.toNat)) := by
  simp [Motor.reconfigured, clampedConfig, timed]

theorem Motor.reconfigured_homed {p : LaneParams} (homed : p.motorKind = 0x00#8) (m : Motor) :
    (∀ q, m = .homed q → m.reconfigured (clampedConfig p) = .homed q) ∧
      (∀ ms, m = .timed ms → m.reconfigured (clampedConfig p) = .homed .offHome) := by
  constructor
  · rintro q rfl; simp [Motor.reconfigured, clampedConfig, homed]
  · rintro ms rfl; simp [Motor.reconfigured, clampedConfig, homed]

/-- A lane newly fitted and one reconfigured take price, class, demand and duty alike from the configuration. -/
theorem LaneConfig.record_settings (c : LaneConfig) (r : LaneRecord) :
    (c.record r).price = c.price ∧ (c.record r).laneClass = c.laneClass ∧ (c.record r).demand = c.demand ∧
      (c.record r).duty = c.duty := by
  cases r <;> exact ⟨rfl, rfl, rfl, rfl⟩

/-! ## The statements -/

/-- Settles O16: SET_LANE leaves `clampedConfig` applied to the record there was. -/
theorem setLaneFitsOrReconfigures : Obligations.SetLaneFitsOrReconfigures := by
  intro s lane l p takes named stock cls motor free
  obtain ⟨price, laneClass, demand, duty⟩ := (clampedConfig p).record_settings (s.lane l)
  have config := laneConfigOf_eq_clampedConfig stock cls motor
  refine ⟨(clampedConfig p).record (s.lane l), exec_setLane_taken takes named config free,
    State.lane_setLane_self _ _ _, fun k other => State.lane_setLane_of_ne other _ _, State.setLane_frame _ _ _,
    price, laneClass, demand, duty, ?unfitted, ?fitted⟩
  case unfitted =>
    intro bare
    rw [bare]
    exact clampedConfig_record_none p
  case fitted =>
    intro f isF
    rw [isF]
    refine ⟨rfl, rfl, ?_, ?_, fun timed => Motor.reconfigured_timed timed f.motor,
      fun homed => Motor.reconfigured_homed homed f.motor⟩
    · intro n cap counted
      rw [← Stock.reconfigured_counted p n cap, ← counted]
      rfl
    · intro soldOut uncounted
      rw [← Stock.reconfigured_uncounted p soldOut, ← uncounted]
      rfl

/-- Settles O19, by what `State.retire` leaves of each record. -/
theorem retireRemovesTheLaneAndItsLinks : Obligations.RetireRemovesTheLaneAndItsLinks := by
  intro s lane l takes named
  refine ⟨?bare, fun f isF => ⟨?busy, ?taken⟩⟩
  case bare =>
    exact fun bare => exec_refused (exec_retireLane _ _) takes (State.onFittedLane_notFitted named bare)
  case busy =>
    intro engaged
    have fitted : s.lane l ≠ none := by simp [isF]
    exact exec_refused (exec_retireLane _ _) takes (State.onFittedLane_laneBusy named fitted engaged)
  case taken =>
    intro free
    refine ⟨s.retire l, ?_, rfl, State.retire_faultedCount isF, State.lane_retire_self l s, fun k other => ⟨?_, ?_⟩⟩
    · rw [← State.linksTo_eq_countP l s]
      · exact exec_retireLane_taken takes named isF free
      · intro k
        rw [Bool.eq_iff_iff]
        cases s.lane k <;> simp [namesAlternate]
    · intro bare
      rw [State.lane_retire_of_ne other, bare]
      rfl
    · intro g isG
      rw [State.lane_retire_of_ne other, isG, unlink_some]

/-- Settles O20, by the two cases of `State.clearFault`. -/
theorem clearLaneFaultReturnsTheLaneToService : Obligations.ClearLaneFaultReturnsTheLaneToService := by
  intro s lane l takes named
  refine ⟨?bare, fun f isF => ⟨?busy, ?taken⟩⟩
  case bare =>
    exact fun bare => exec_refused (exec_clearLaneFault _ _) takes (State.onFittedLane_notFitted named bare)
  case busy =>
    intro engaged
    have fitted : s.lane l ≠ none := by simp [isF]
    exact exec_refused (exec_clearLaneFault _ _) takes (State.onFittedLane_laneBusy named fitted engaged)
  case taken =>
    intro free
    have answer := exec_clearLaneFault_taken takes named isF free
    refine ⟨fun active => ?_, fun faulted => ?_⟩
    · rwa [State.clearFault_active active] at answer
    · rw [State.clearFault_faulted faulted] at answer
      obtain ⟨homed, timed⟩ := f.motor.moveTo_offHome
      exact ⟨f.motor.moveTo .offHome, _, answer, homed, timed, State.lane_setLane_self l _ s,
        fun k other => State.lane_setLane_of_ne other _ s, rfl⟩

/-- What the last part of R15 asks of a request taken: its reply begins with the record as READ_LANE then sends it,
and only RETIRE_LANE sends more. -/
def TakenReadsBack (s : State) (lane : Byte) (l : LaneNo) (c : Instr) : Prop :=
  ∃ (t : State) (n : Nat) (code : Byte) (more : List Byte),
    exec c s = .next (t.answered s n code .ok (t.laneFields l ++ more)) ∧
    exec (.readLane lane) t = .next (t.answered t 2 0x11#8 .ok (t.laneFields l)) ∧
    ((∀ x, c ≠ .retireLane x) → more = [])

section
variable {s : State} {lane : Byte} {l : LaneNo}

theorem takenReadsBack_of_answer {t : State} {c : Instr} {n : Nat} {code : Byte}
    (answer : exec c s = .next (t.answered s n code .ok (t.laneFields l))) (after : t.TakesFrames)
    (named : lane.toNat = l.val) : TakenReadsBack s lane l c :=
  ⟨t, n, code, [], by rwa [List.append_nil], exec_readLane_taken after named, fun _ => rfl⟩

theorem setLane_readsBack {p : LaneParams} (takes : s.TakesFrames) (named : lane.toNat = l.val)
    (free : s.engaged l = false) (stock : p.stockMode.toNat ≤ 1) (cls : p.laneClass.toNat ≤ 1)
    (motor : p.motorKind.toNat ≤ 1) : TakenReadsBack s lane l (.setLane lane p) :=
  takenReadsBack_of_answer (exec_setLane_taken takes named (laneConfigOf_of_inside stock cls motor) free)
    (takes.congr rfl rfl) named

variable {f : FittedLane}

theorem setLink_readsBack {alternate : Byte} {a : Option LaneNo} (takes : s.TakesFrames) (named : lane.toNat = l.val)
    (isF : s.lane l = some f) (free : s.engaged l = false) (alt : laneOrNone alternate = some a)
    (allowed : s.linkAllowed l a = true) : TakenReadsBack s lane l (.setLink lane alternate) :=
  takenReadsBack_of_answer (exec_setLink_taken takes alt named isF free allowed) (takes.congr rfl rfl) named

theorem restock_readsBack (count : Byte) (takes : s.TakesFrames) (named : lane.toNat = l.val)
    (isF : s.lane l = some f) (free : s.engaged l = false) : TakenReadsBack s lane l (.restock lane count) :=
  takenReadsBack_of_answer (exec_restock_taken takes named isF free) (takes.congr rfl rfl) named

theorem clearLaneFault_readsBack (takes : s.TakesFrames) (named : lane.toNat = l.val) (isF : s.lane l = some f)
    (free : s.engaged l = false) : TakenReadsBack s lane l (.clearLaneFault lane) :=
  takenReadsBack_of_answer (exec_clearLaneFault_taken takes named isF free)
    (takes.congr (State.clearFault_supply l f s) (State.clearFault_port l f s)) named

theorem retireLane_readsBack (takes : s.TakesFrames) (named : lane.toNat = l.val) (isF : s.lane l = some f)
    (free : s.engaged l = false) : TakenReadsBack s lane l (.retireLane lane) :=
  ⟨s.retire l, _, _, _, exec_retireLane_taken takes named isF free, exec_readLane_taken (takes.congr rfl rfl) named,
    fun notRetire => absurd rfl (notRetire lane)⟩

end

/-- Settles O17: each refusal by the check that fails first, each request taken by its own case. -/
theorem laneRequestsAreCheckedInOrder : Obligations.LaneRequestsAreCheckedInOrder := by
  intro s lane takes
  refine ⟨fun outside => ⟨?_, ?_, ?_, ?_, ?_⟩, ?badChoice, ?badAlternate,
    fun l named => ⟨?bare, ?busy, ?badLink, ?taken⟩⟩
  · exact fun p => exec_refused (exec_setLane _ _ _) takes (State.setLaneAnswer_badLane outside)
  · exact fun a => exec_refused (exec_setLink _ _ _) takes (State.setLinkAnswer_outOfRange outside)
  · exact fun n => exec_refused (exec_restock _ _ _) takes (State.onFittedLane_outOfRange outside)
  · exact exec_refused (exec_retireLane _ _) takes (State.onFittedLane_outOfRange outside)
  · exact exec_refused (exec_clearLaneFault _ _) takes (State.onFittedLane_outOfRange outside)
  case badChoice =>
    exact fun p outside =>
      exec_refused (exec_setLane _ _ _) takes (State.setLaneAnswer_badChoice (laneConfigOf_of_outside outside))
  case badAlternate =>
    exact fun a outside notNone =>
      exec_refused (exec_setLink _ _ _) takes (State.setLinkAnswer_badAlternate (laneOrNone_of_outside outside notNone))
  case bare =>
    intro bare
    refine ⟨fun a alt => ?_, fun n => ?_, ?_, ?_⟩
    · exact exec_refused (exec_setLink _ _ _) takes (State.setLinkAnswer_notFitted alt named bare)
    · exact exec_refused (exec_restock _ _ _) takes (State.onFittedLane_notFitted named bare)
    · exact exec_refused (exec_retireLane _ _) takes (State.onFittedLane_notFitted named bare)
    · exact exec_refused (exec_clearLaneFault _ _) takes (State.onFittedLane_notFitted named bare)
  case busy =>
    intro engaged
    refine ⟨fun p stock cls motor => ?_, fun fitted => ⟨fun a alt => ?_, fun n => ?_, ?_, ?_⟩⟩
    · have config := laneConfigOf_of_inside stock cls motor
      exact exec_refused (exec_setLane _ _ _) takes (State.setLaneAnswer_laneBusy named config engaged)
    · exact exec_refused (exec_setLink _ _ _) takes (State.setLinkAnswer_laneBusy alt named fitted engaged)
    · exact exec_refused (exec_restock _ _ _) takes (State.onFittedLane_laneBusy named fitted engaged)
    · exact exec_refused (exec_retireLane _ _) takes (State.onFittedLane_laneBusy named fitted engaged)
    · exact exec_refused (exec_clearLaneFault _ _) takes (State.onFittedLane_laneBusy named fitted engaged)
  case badLink =>
    exact fun free fitted a bad b alt =>
      exec_refused (exec_setLink _ _ _) takes (State.setLinkAnswer_badLink alt named fitted free bad)
  case taken =>
    rintro c free (⟨p, rfl, stock, cls, motor⟩ | ⟨fitted, request⟩)
    · exact setLane_readsBack takes named free stock cls motor
    · obtain ⟨f, isF⟩ := Option.ne_none_iff_exists'.mp fitted
      rcases request with rfl | ⟨b, a, rfl, alt, other, linked⟩ | ⟨n, rfl⟩ | rfl | rfl
      · exact setLink_readsBack takes named isF free laneOrNone_none rfl
      · have allowed := (State.linkAllowed_some_iff l a s).mpr ⟨other, linked⟩
        exact setLink_readsBack takes named isF free (laneOrNone_of_toNat_eq alt) allowed
      · exact restock_readsBack n takes named isF free
      · exact retireLane_readsBack takes named isF free
      · exact clearLaneFault_readsBack takes named isF free

/-! ## Windows -/

/-- The state SET_WINDOW leaves: one window replaced (R12). -/
def State.withWindow (n : WindowNo) (w : Window) (s : State) : State :=
  { s with lanes := { s.lanes with windows := s.lanes.windows.set n w } }

theorem State.windows_withWindow (n k : WindowNo) (w : Window) (s : State) :
    (s.withWindow n w).lanes.windows[k] = if n = k then w else s.lanes.windows[k] := by
  unfold State.withWindow
  simp only [Fin.getElem_fin, Vector.getElem_set, Fin.ext_iff]

theorem State.withWindow_frame (n : WindowNo) (w : Window) (s : State) :
    s.withWindow n w = { s with lanes := { s.lanes with windows := (s.withWindow n w).lanes.windows } } := rfl

theorem yesNo_iff (b : Byte) : yesNo b = true ↔ b ≠ 0x00#8 := bne_iff_ne

theorem bit_yesNo (b : Byte) : bit (yesNo b) = [if b = 0x00#8 then 0x00#8 else 0x01#8] := by
  by_cases zero : b = 0x00#8 <;> simp [bit, yesNo, zero]

section
variable {s : State} {window : Byte} {p : WindowParams} {n : WindowNo}

theorem exec_setWindow_taken {w : Window} (h : s.TakesFrames) (named : window.toNat = n.val)
    (isWindow : windowOf p = some w) :
    exec (.setWindow window p) s = .next ((s.withWindow n w).answered s 8 0x17#8 .ok w.fields) :=
  exec_ok (exec_setWindow _ _ _) h (by simp only [index_of_toNat_eq named, isWindow]; rfl)

theorem exec_setWindow_refused (h : s.TakesFrames) (bad : index 8 window = none ∨ windowOf p = none) :
    exec (.setWindow window p) s = .next (s.answered s 8 0x17#8 .outOfRange []) := by
  refine exec_refused (exec_setWindow _ _ _) h ?_
  rcases bad with badIndex | badWindow
  · simp only [badIndex]
  · simp only [badWindow]
    cases index 8 window <;> rfl

theorem exec_readWindow_taken (h : s.TakesFrames) (named : window.toNat = n.val) :
    exec (.readWindow window) s = .next (s.answered s 2 0x18#8 .ok s.lanes.windows[n].fields) :=
  exec_ok (exec_readWindow _ _) h (by simp only [index_of_toNat_eq named])

end

/-- Settles O13, by the window that `windowOf` reads from the parameters. -/
theorem windowsAreWrittenAndRead : Obligations.WindowsAreWrittenAndRead := by
  intro s w p takes
  refine ⟨?set, ?refused, fun n named => exec_readWindow_taken takes named, ?outside⟩
  case set =>
    rintro ⟨inIndex, -, lastInside, baseInside, inOrder⟩
    obtain ⟨n, named⟩ : ∃ n : WindowNo, w.toNat = n.val := ⟨⟨w.toNat, by omega⟩, rfl⟩
    obtain ⟨base, isBase⟩ : ∃ base : LaneNo, p.baseLane.toNat = base.val := ⟨⟨p.baseLane.toNat, by omega⟩, rfl⟩
    have answer := exec_setWindow_taken takes named (windowOf_of_inside isBase inOrder lastInside)
    rw [← bit_yesNo p.enabled, isBase]
    refine ⟨_, answer, State.withWindow_frame n _ s, fun k => ⟨fun other => ?_, fun same => ?_⟩⟩
    · rw [State.windows_withWindow, if_neg]
      rintro rfl
      exact other named.symm
    · rw [State.windows_withWindow, if_pos (Fin.ext (named.symm.trans same.symm))]
      exact ⟨rfl, rfl, rfl, yesNo_iff p.enabled⟩
  case refused =>
    intro bad
    refine exec_setWindow_refused takes ?_
    rcases bad with badIndex | badWindow
    · exact .inl (index_of_le badIndex)
    · exact .inr (windowOf_of_outside badWindow)
  case outside =>
    exact fun outside =>
      exec_refused (exec_readWindow _ _) takes (by simp only [index_of_le (n := 8) outside])

end Sys2Proof.Machine
end

section
/-! PROOFS. The coins presented to the part and the requests of the Coin Router (04_coin_acceptance_and_routing.md): first
what the gate, the checks on a coin's entry and the route decide, then the waking of a QUIET part, then the statements. -/
namespace Sys2Proof.Machine

/-- An event of a part that runs has its effect. -/
theorem exec_event {c : Instr} {s : State} {f : State → State} (arm : exec c s = s.event f)
    (running : s.supply.power = .running) : exec c s = .next (f s) := by
  rw [arm, State.event, State.isRunning, running]
  rfl

theorem exec_coinPresented (y : Option CoinTypeNo) (s : State) : exec (.coinPresented y) s = execCoinPresented y s := rfl
theorem exec_setAccept (mode : Byte) (s : State) : exec (.setAccept mode) s = execSetAccept mode s := rfl
theorem exec_setCoinType (y : Byte) (p : CoinParams) (s : State) :
    exec (.setCoinType y p) s = execSetCoinType y p s := rfl
theorem exec_clearCashbox (s : State) : exec .clearCashbox s = execClearCashbox s := rfl

/-! ## The accept gate: the first closing condition that stands (R60) -/

section
variable {s : State}

theorem State.gateClosed_sessionBusy (busy : s.session.state = .vending ∨ s.session.state = .paying) :
    s.gateClosed = some .sessionBusy := if_pos busy

variable (free : s.session.state = .idle ∨ s.session.state = .opened)
include free

/-- A session that is IDLE or OPEN closes the gate neither as VENDING nor as PAYING. -/
theorem State.not_sessionBusy : ¬(s.session.state = .vending ∨ s.session.state = .paying) := by
  rcases free with idle | opened
  · simp [idle]
  · simp [opened]

theorem State.gateClosed_quiet (quiet : s.supply.quiet = true) : s.gateClosed = some .quiet := by
  simp [State.gateClosed, State.not_sessionBusy free, quiet]

variable (awake : s.supply.quiet = false)
include awake

theorem State.gateClosed_doorOpen (door : s.supply.door = .opened) : s.gateClosed = some .doorOpen := by
  simp [State.gateClosed, State.not_sessionBusy free, awake, door]

variable (door : s.supply.door = .closed)
include door

theorem State.gateClosed_acceptOff (off : s.coins.acceptance = false) : s.gateClosed = some .acceptOff := by
  simp [State.gateClosed, State.not_sessionBusy free, awake, door, off]

variable (on : s.coins.acceptance = true)
include on

theorem State.gateClosed_inTransit (taken : s.coins.slot ≠ none) : s.gateClosed = some .inTransit := by
  simp [State.gateClosed, State.not_sessionBusy free, awake, door, on, Option.isSome_iff_ne_none.mpr taken]

variable (empty : s.coins.slot = none)
include empty

theorem State.gateClosed_supply (bad : s.supply.underLevel = true ∨ s.supply.overLevel = true) :
    s.gateClosed = some .supply := by
  simp [State.gateClosed, State.supplyCondition, State.not_sessionBusy free, awake, door, on, empty, bad]

theorem State.gateClosed_none (running : s.supply.power = .running) (under : s.supply.underLevel = false)
    (notOver : s.supply.overLevel = false) : s.gateClosed = none := by
  simp [State.gateClosed, State.supplyCondition, State.isRunning, State.not_sessionBusy free, awake, door, on, empty,
    running, under, notOver]

end

/-! ## The checks on the entry of a coin's type (R62) -/

section
variable {s : State} {e : CoinEntry}

theorem State.entryRejects_notConfigured (bare : e.value = 0) : s.entryRejects e = some .notConfigured := if_pos bare

variable (configured : e.value ≠ 0)
include configured

theorem State.entryRejects_inhibited (inhibited : e.inhibit = true) : s.entryRejects e = some .inhibited := by
  simp [State.entryRejects, configured, inhibited]

variable (allowed : e.inhibit = false)
include allowed

theorem State.entryRejects_ceiling (above : s.machine.creditCeiling < s.session.total + e.value) :
    s.entryRejects e = some .ceiling := by
  simp [State.entryRejects, configured, allowed, above]

variable (within : s.session.total + e.value ≤ s.machine.creditCeiling)
include within

theorem State.entryRejects_exactChange (exact : s.tubes.exactChange = true ∧ e.changeDependent = true) :
    s.entryRejects e = some .exactChange := by
  simp [State.entryRejects, configured, allowed, Nat.not_lt.mpr within, exact]

theorem State.entryRejects_none (change : s.tubes.exactChange = false ∨ e.changeDependent = false) :
    s.entryRejects e = none := by
  simp only [State.entryRejects, if_neg configured, allowed, Bool.false_eq_true, if_false,
    if_neg (Nat.not_lt.mpr within)]
  rcases change with notExact | independent
  · simp [notExact]
  · simp [independent]

end

/-! ## The route of an accepted coin (R64) -/

theorem Tube.isFull_eq_false_iff (t : Tube) : t.isFull = false ↔ t.count < t.capacity ∧ t.fullCovered = false := by
  simp [Tube.isFull]

section
variable {s : State} {e : CoinEntry} {k : TubeNo}

theorem State.routeOf_tube (dest : e.destination = .tube k) (active : (s.tube k).presence = .active)
    (room : (s.tube k).count < (s.tube k).capacity) (uncovered : (s.tube k).fullCovered = false)
    (same : (s.tube k).value = e.value) : s.routeOf e = .tube k := by
  have notFull := (Tube.isFull_eq_false_iff _).mpr ⟨room, uncovered⟩
  simp only [State.routeOf, dest]
  exact if_pos ⟨active, notFull, same⟩

theorem State.routeOf_cashbox
    (unfit : ∀ k, e.destination = .tube k → (s.tube k).presence ≠ .active ∨ (s.tube k).capacity ≤ (s.tube k).count ∨
      (s.tube k).fullCovered = true ∨ (s.tube k).value ≠ e.value) : s.routeOf e = .cashbox := by
  cases dest : e.destination with
  | cashbox => simp only [State.routeOf, dest]
  | tube k =>
    simp only [State.routeOf, dest]
    refine if_neg ?_
    rintro ⟨active, notFull, same⟩
    obtain ⟨room, uncovered⟩ := (Tube.isFull_eq_false_iff _).mp notFull
    rcases unfit k dest with inactive | full | covered | other
    · exact inactive active
    · exact absurd room (Nat.not_lt.mpr full)
    · exact absurd covered (by simp [uncovered])
    · exact other same

end

/-! ## What the checks decide (R62, R63, R64) -/

section
variable {s : State} {y : Option CoinTypeNo} {n : CoinTypeNo} {r : RejectReason}

theorem State.presentCoin_of_closed (closed : s.gateClosed = some r) : s.presentCoin y = s.returnCoin r y := by
  simp only [State.presentCoin, closed]

variable (gate : s.gateClosed = none)
include gate

theorem State.presentCoin_unknown : s.presentCoin none = s.returnCoin .unknownType none := by
  simp only [State.presentCoin, gate]

theorem State.presentCoin_of_rejected (rejected : s.entryRejects s.coins.table[n] = some r) :
    s.presentCoin (some n) = s.returnCoin r (some n) := by
  simp only [State.presentCoin, gate, rejected]

theorem State.presentCoin_of_accepted (passed : s.entryRejects s.coins.table[n] = none) :
    s.presentCoin (some n) = s.acceptCoin n s.coins.table[n] := by
  simp only [State.presentCoin, gate, passed]

end

/-- Whatever the checks decide, the Supply and Power block is as it was. -/
theorem State.presentCoin_supply (y : Option CoinTypeNo) (s : State) : (s.presentCoin y).supply = s.supply := by
  unfold State.presentCoin
  split
  · rfl
  · split
    · rfl
    · dsimp only
      split <;> rfl

/-! ## The coin that wakes a QUIET part (R71, R171) -/

/-- The thermostat moves the call and what follows from it, and neither the Coin Router nor the supply. -/
theorem State.setCall_coins_supply (call : Bool) (s : State) :
    (s.setCall State.evaluate call).coins = s.coins ∧ (s.setCall State.evaluate call).supply = s.supply := by
  unfold State.setCall
  split
  · exact ⟨rfl, rfl⟩
  · have kept := State.kept_updateCompressor State.kept_evaluate (s.setCooling { s.cooling with call := call })
    exact ⟨kept.coins, kept.supply⟩

theorem State.evaluateThermostat_coins_supply (s : State) :
    (s.evaluateThermostat State.evaluate).coins = s.coins ∧
      (s.evaluateThermostat State.evaluate).supply = s.supply := by
  unfold State.evaluateThermostat
  split
  · exact State.setCall_coins_supply _ s
  · exact ⟨rfl, rfl⟩

/-- Leaving QUIET changes nothing else of the supply, and no record of the Coin Router. -/
theorem State.leaveQuiet_coins_supply {s : State} (quiet : s.supply.quiet = true) :
    s.leaveQuiet.coins = s.coins ∧ s.leaveQuiet.supply = { s.supply with quiet := false } := by
  rw [State.leaveQuiet, if_pos quiet]
  exact State.evaluateThermostat_coins_supply { s with supply := { s.supply with quiet := false } }

section
variable {s : State} {enabled : Bool}

theorem State.wakeEvent_wakes (quiet : s.supply.quiet = true) (on : enabled = true) :
    s.wakeEvent enabled = (s.setFlag .wake).leaveQuiet := by
  simp [State.wakeEvent, quiet, on]

theorem State.wakeEvent_eq_self (still : s.supply.quiet = true → enabled = false) : s.wakeEvent enabled = s := by
  unfold State.wakeEvent
  refine if_neg fun wakes => ?_
  obtain ⟨quiet, on⟩ := Bool.and_eq_true_iff.mp wakes
  exact absurd on (by simp [still quiet])

end

/-! ## COIN_PRESENTED -/

section
variable {s : State} {y : Option CoinTypeNo}

theorem exec_coinPresented_wakes (running : s.supply.power = .running) (quiet : s.supply.quiet = true)
    (wakes : s.supply.wakeCoin = true) (free : s.session.state = .idle ∨ s.session.state = .opened) :
    exec (.coinPresented y) s = .next ((s.returnCoin .quiet y).setFlag .wake).leaveQuiet := by
  rw [exec_event (exec_coinPresented y s) running, State.presentCoin_of_closed (State.gateClosed_quiet free quiet),
    State.wakeEvent_wakes (s := s.returnCoin .quiet y) quiet wakes]

variable (running : s.supply.power = .running) (still : s.supply.quiet = true → s.supply.wakeCoin = false)
include running still

/-- A coin that wakes nothing has the effect that the checks decide, and no other. -/
theorem exec_coinPresented_still : exec (.coinPresented y) s = .next (s.presentCoin y) := by
  rw [exec_event (exec_coinPresented y s) running,
    State.wakeEvent_eq_self (by rwa [State.presentCoin_supply])]

theorem exec_coinPresented_closed {r : RejectReason} (closed : s.gateClosed = some r) :
    exec (.coinPresented y) s = .next (s.returnCoin r y) := by
  rw [exec_coinPresented_still running still, State.presentCoin_of_closed closed]

variable (gate : s.gateClosed = none)
include gate

theorem exec_coinPresented_unknown (unknown : y = none) :
    exec (.coinPresented y) s = .next (s.returnCoin .unknownType y) := by
  rw [exec_coinPresented_still running still, unknown, State.presentCoin_unknown gate]

variable {n : CoinTypeNo} {e : CoinEntry} (named : y = some n) (entry : s.coins.table[n] = e)
include named entry

theorem exec_coinPresented_rejected {r : RejectReason} (rejected : s.entryRejects e = some r) :
    exec (.coinPresented y) s = .next (s.returnCoin r y) := by
  subst named entry
  rw [exec_coinPresented_still running still, State.presentCoin_of_rejected gate rejected]

theorem exec_coinPresented_accepted (passed : s.entryRejects e = none) :
    exec (.coinPresented y) s = .next (s.acceptCoin n e) := by
  subst named entry
  rw [exec_coinPresented_still running still, State.presentCoin_of_accepted gate passed]

end

theorem State.acceptCoin_eq {s : State} {e : CoinEntry} {route : Route} (n : CoinTypeNo) (goes : s.routeOf e = route) :
    s.acceptCoin n e =
      { s with
        coins :=
          { s.coins with
            diverter := route
            slot :=
              some
                { type := n, value := e.value, route := route,
                  timer := { elapsed := 0, limit := s.machine.transitLimit } } } } := by
  subst goes
  rfl

/-- Settles O35: the conditions of the gate first, then the checks on the entry, each by the check that fails first;
then the route of the coin that passes them all. -/
theorem coinsAreCheckedInOrder : Obligations.CoinsAreCheckedInOrder := by
  intro s y ret running isRet
  obtain rfl : ret = fun r => s.returnCoin r y := funext isRet
  refine ⟨fun quiet wakes free => ⟨exec_coinPresented_wakes running quiet wakes free, ?_⟩, fun still => ?_⟩
  · exact State.leaveQuiet_coins_supply (s := (s.returnCoin .quiet y).setFlag .wake) quiet
  have returned {r : RejectReason} (closed : s.gateClosed = some r) :
      exec (.coinPresented y) s = .next (s.returnCoin r y) := exec_coinPresented_closed running still closed
  refine ⟨fun busy => returned (State.gateClosed_sessionBusy busy), fun free => ?_⟩
  refine ⟨fun quiet => returned (State.gateClosed_quiet free quiet), fun awake => ?_⟩
  refine ⟨fun door => returned (State.gateClosed_doorOpen free awake door), fun door => ?_⟩
  refine ⟨fun off => returned (State.gateClosed_acceptOff free awake door off), fun on => ?_⟩
  refine ⟨fun taken => returned (State.gateClosed_inTransit free awake door on taken), fun empty => ?_⟩
  refine ⟨fun bad => returned (State.gateClosed_supply free awake door on empty bad), fun under notOver => ?_⟩
  have gate := State.gateClosed_none free awake door on empty running under notOver
  refine ⟨exec_coinPresented_unknown running still gate, fun n e named entry => ?_⟩
  have rejected {r : RejectReason} : s.entryRejects e = some r →
      exec (.coinPresented y) s = .next (s.returnCoin r y) :=
    exec_coinPresented_rejected running still gate named entry
  refine ⟨fun bare => rejected (State.entryRejects_notConfigured bare), fun configured => ?_⟩
  refine ⟨fun inhibited => rejected (State.entryRejects_inhibited configured inhibited), fun allowed => ?_⟩
  refine ⟨fun above => rejected (State.entryRejects_ceiling configured allowed above), fun within => ?_⟩
  refine ⟨fun exact => rejected (State.entryRejects_exactChange configured allowed within exact), fun change => ?_⟩
  intro route goes
  have passed := State.entryRejects_none configured allowed within change
  rw [exec_coinPresented_accepted running still gate named entry passed]
  refine congrArg _ (State.acceptCoin_eq n ?_)
  rcases goes with ⟨k, dest, rfl, active, room, uncovered, same⟩ | ⟨rfl, unfit⟩
  · exact State.routeOf_tube dest active room uncovered same
  · exact State.routeOf_cashbox unfit

/-! ## The parameters of the Coin Router's requests -/

theorem acceptanceAfter_of_inside {mode : Byte} {old a : Bool}
    (h : mode = 0x00#8 ∧ a = false ∨ mode = 0x01#8 ∧ a = true ∨ mode = 0x02#8 ∧ a = old) :
    acceptanceAfter mode old = some a := by
  rcases h with ⟨rfl, rfl⟩ | ⟨rfl, rfl⟩ | ⟨rfl, rfl⟩ <;> rfl

theorem acceptanceAfter_of_outside {mode : Byte} {old : Bool} (h : 2 < mode.toNat) : acceptanceAfter mode old = none := by
  unfold acceptanceAfter
  split
  · omega
  · omega
  · omega
  · rfl

theorem destination_of_outside {b : Byte} (outside : 5 < b.toNat) (notCashbox : b ≠ 0xFF#8) : destination b = none := by
  simp [destination, notCashbox, index_of_le (n := 6) outside]

section
variable {b : Byte} {d : Route} (h : b = 0xFF#8 ∧ d = .cashbox ∨ ∃ k : TubeNo, b.toNat = k.val ∧ d = .tube k)
include h

/-- The destination byte of a coin type says where its coins go (R59). -/
theorem destination_of_inside : destination b = some d := by
  rcases h with ⟨rfl, rfl⟩ | ⟨k, named, rfl⟩
  · rfl
  · have notCashbox : b ≠ 0xFF#8 := by rintro rfl; have := k.isLt; simp at named; omega
    simp [destination, notCashbox, index_of_toNat_eq named]

/-- A reply gives a destination back as the byte that set it. -/
theorem field_code_of_destination : field 1 d.code = [b] := by
  have code : d.code = b.toNat := by
    rcases h with ⟨rfl, rfl⟩ | ⟨k, named, rfl⟩
    · rfl
    · exact named.symm
  simp [code, field, bytesOf, b.isLt]

end

/-- The entry that SET_COIN_TYPE writes for a coin type with the destination `d` (R59). -/
def entryTo (d : Route) (p : CoinParams) : CoinEntry :=
  { value := min 10000 p.value.toNat, destination := d, inhibit := decide (p.inhibit ≠ 0x00#8),
    changeDependent := decide (p.changeDependent ≠ 0x00#8) }

theorem yesNo_eq_decide (b : Byte) : yesNo b = decide (b ≠ 0x00#8) :=
  Bool.eq_iff_iff.mpr ((yesNo_iff b).trans decide_eq_true_iff.symm)

theorem coinEntryOf_of_destination {p : CoinParams} {d : Route} (isDest : destination p.destination = some d) :
    coinEntryOf p = some (entryTo d p) := by
  simp [coinEntryOf, isDest, entryTo, clamp, yesNo_eq_decide]

theorem entryTo_fields {p : CoinParams} {d : Route} (code : field 1 d.code = [p.destination]) :
    (entryTo d p).fields =
      field 2 (min 10000 p.value.toNat) ++ [p.destination] ++ [if p.inhibit = 0x00#8 then 0x00#8 else 0x01#8]
        ++ [if p.changeDependent = 0x00#8 then 0x00#8 else 0x01#8] := by
  simp only [entryTo, CoinEntry.fields, code, ← yesNo_eq_decide, bit_yesNo]

/-! ## The Coin Router's requests -/

section
variable {s : State}

theorem exec_setAccept_taken {mode : Byte} {a : Bool} (h : s.TakesFrames)
    (isMode : acceptanceAfter mode s.coins.acceptance = some a) :
    exec (.setAccept mode) s =
      .next (({ s with coins := { s.coins with acceptance := a } } : State).answered s 2 0x33#8 .ok
        ({ s with coins := { s.coins with acceptance := a } } : State).routerFields) :=
  exec_ok (exec_setAccept _ _) h (by simp only [isMode])

theorem exec_setAccept_refused {mode : Byte} (h : s.TakesFrames)
    (noMode : acceptanceAfter mode s.coins.acceptance = none) :
    exec (.setAccept mode) s = .next (s.answered s 2 0x33#8 .outOfRange []) :=
  exec_refused (exec_setAccept _ _) h (by simp only [noMode])

variable {y : Byte} {p : CoinParams}

theorem exec_setCoinType_taken {n : CoinTypeNo} {e : CoinEntry} (h : s.TakesFrames) (named : y.toNat = n.val)
    (isEntry : coinEntryOf p = some e) :
    exec (.setCoinType y p) s =
      .next (({ s with coins := { s.coins with table := s.coins.table.set n e } } : State).answered s 7 0x34#8 .ok
        e.fields) :=
  exec_ok (exec_setCoinType _ _ _) h (by simp only [index_of_toNat_eq named, isEntry])

theorem exec_setCoinType_refused (h : s.TakesFrames) (bad : index 16 y = none ∨ coinEntryOf p = none) :
    exec (.setCoinType y p) s = .next (s.answered s 7 0x34#8 .outOfRange []) := by
  refine exec_refused (exec_setCoinType _ _ _) h ?_
  rcases bad with badIndex | badEntry
  · simp only [badIndex]
  · simp only [badEntry]
    cases index 16 y <;> rfl

end

/-- Settles O37, by the acceptance and the entry that the parameters name. -/
theorem coinRouterRequestsWriteTheirOwnRecord : Obligations.CoinRouterRequestsWriteTheirOwnRecord := by
  intro s takes
  refine ⟨fun mode a inside => exec_setAccept_taken takes (acceptanceAfter_of_inside inside),
    fun mode outside => exec_setAccept_refused takes (acceptanceAfter_of_outside outside), ?refused, ?written,
    exec_ok (exec_clearCashbox s) takes rfl⟩
  case refused =>
    intro y p bad
    refine exec_setCoinType_refused takes ?_
    rcases bad with badIndex | ⟨outside, notCashbox⟩
    · exact .inl (index_of_le badIndex)
    · exact .inr (by rw [coinEntryOf, destination_of_outside outside notCashbox]; rfl)
  case written =>
    intro y n p d named isDest
    have answer := exec_setCoinType_taken takes named (coinEntryOf_of_destination (destination_of_inside isDest))
    rwa [entryTo_fields (field_code_of_destination isDest)] at answer

end Sys2Proof.Machine
end

section
/-! PROOFS. The terms of an operation in flight (07_the_vend.md, R118): no shared operation, and no evaluation of the
Budget Arbiter, changes the chosen lane, its price or the chain. -/
namespace Sys2Proof.Machine

/-! ## The terms of the operation in flight -/

/-- What an acceptance fixes (R118): the chosen lane, its price and the chain. -/
structure Terms where
  chosen : LaneNo
  price : Nat
  chain : List LaneNo

/-- The terms of a context. -/
def VendContext.terms (c : VendContext) : Terms :=
  { chosen := c.chosen, price := c.price, chain := c.chain }

/-- An operation in flight, if there is one, is on these terms. An operation may end, so that this is kept where
"there is one" is not. -/
def State.OnTerms (s : State) (a : Terms) : Prop := ∀ c, s.vend.context = some c → c.terms = a

theorem VendContext.terms_eq_iff {c d : VendContext} :
    d.terms = c.terms ↔ d.chosen = c.chosen ∧ d.price = c.price ∧ d.chain = c.chain := by
  simp [VendContext.terms]

namespace State.OnTerms

variable {a : Terms} {s t : State} {c : VendContext}

theorem of_context (inFlight : s.vend.context = some c) : s.OnTerms c.terms := by
  intro d isD
  rw [Option.some.inj (inFlight.symm.trans isD)]

theorem of_none (ended : s.vend.context = none) : s.OnTerms a := by
  intro c inFlight
  simp [ended] at inFlight

/-- The Vend Engine alone decides. -/
theorem of_vend (same : t.vend = s.vend) (h : s.OnTerms a) : t.OnTerms a := by
  unfold State.OnTerms
  rwa [same]

theorem setVend (onTerms : c.terms = a) : (s.setVend (some c)).OnTerms a := by
  rintro d ⟨⟩
  exact onTerms

theorem mapVend {f : VendContext → VendContext} (keeps : ∀ d, (f d).terms = d.terms) (h : s.OnTerms a) :
    (s.setVend (s.vend.context.map f)).OnTerms a := by
  intro d isD
  obtain ⟨c, inFlight, rfl⟩ := Option.map_eq_some_iff.mp isD
  exact (keeps c).trans (h c inFlight)

/-! ## The acts that may make an evaluation

Each is given the evaluation `ev` that follows it; `hev` says that this keeps the terms too. -/

section
variable {ev : State → State} (hev : ∀ s : State, s.OnTerms a → (ev s).OnTerms a)
include hev

/-! ### Grants and orders -/

theorem request {k : Consumer} {n : Nat} (h : s.OnTerms a) : (s.request ev k n).OnTerms a := by
  unfold State.request
  split
  · exact hev _ h
  · exact h

theorem giveUp {k : Consumer} (h : s.OnTerms a) : (s.giveUp ev k).OnTerms a := by
  unfold State.giveUp
  split
  · exact h
  · exact hev _ h

theorem reduceCompressor (h : s.OnTerms a) : (s.reduceCompressor ev).OnTerms a := by
  unfold State.reduceCompressor
  split
  · exact hev _ h
  · exact h

theorem finishOrder {k : PayoutCause} (h : s.OnTerms a) : (s.finishOrder ev k).OnTerms a := by
  unfold State.finishOrder
  split
  · exact h
  · next o _ =>
    have released : ((s.setOrder (some { o with state := .ended, awaited := none, budgetWait := none })
        ).releaseCommitments.giveUp ev .payout).OnTerms a := .giveUp hev (.of_vend (by simp) h)
    refine .of_vend ?_ released
    dsimp only
    split <;> simp

theorem startOrder {o : Order} (h : s.OnTerms a) : (s.startOrder ev o).OnTerms a := by
  unfold State.startOrder
  split
  · exact .request hev h
  · exact .finishOrder hev h

theorem createSessionOrder (h : s.OnTerms a) : (s.createSessionOrder ev).OnTerms a :=
  .startOrder hev (.of_vend (by simp) h)

theorem createDispenseOrder {n : TubeNo} {coins : Nat} (h : s.OnTerms a) :
    (s.createDispenseOrder ev n coins).OnTerms a := .startOrder hev (.of_vend (by simp) h)

theorem releaseHeld (h : s.OnTerms a) : (s.releaseHeld ev).OnTerms a := by
  unfold State.releaseHeld
  split
  · exact .createSessionOrder hev h
  · exact h

theorem endOrder {k : PayoutCause} (h : s.OnTerms a) : (s.endOrder ev k).OnTerms a := by
  unfold State.endOrder
  split
  · exact h
  · exact .releaseHeld hev (.finishOrder hev h)

theorem replan (h : s.OnTerms a) : (s.replan ev).OnTerms a := by
  unfold State.replan
  split
  · exact h
  · dsimp only
    split
    · split <;> exact .of_vend (by simp) h
    · exact .endOrder hev (.of_vend (by simp) h)

theorem takeTrim (h : s.OnTerms a) : (s.takeTrim ev).OnTerms a := by
  unfold State.takeTrim
  split
  · exact h
  · split
    · exact h
    · exact .replan hev h

theorem confirmPayout (h : s.OnTerms a) : (s.confirmPayout ev).OnTerms a := by
  unfold State.confirmPayout
  split
  · exact h
  split
  · exact h
  split
  · exact h
  next o _ _ w _ _ =>
    refine .of_vend (State.limitOvertaken_vend _ _) ?_
    have counted : ∀ p : Order, (State.evaluateExact (State.setOrder (some p)
        (if o.source = .session then
          (s.setTube w.tube (s.tube w.tube).coinOut).payCoinCredit (s.tube w.tube).value
        else s.setTube w.tube (s.tube w.tube).coinOut))).OnTerms a := by
      intro p
      refine .of_vend ?_ h
      split <;> simp
    split
    · exact .replan hev (counted _)
    · split
      · exact .of_vend (State.pulseNext_vend _ _) (counted _)
      · exact .endOrder hev (counted _)

theorem payoutLimit (h : s.OnTerms a) : (s.payoutLimit ev).OnTerms a := by
  unfold State.payoutLimit
  split
  · exact h
  split
  · exact h
  split
  · exact h
  split
  · exact .of_vend (State.pulsedAfterFault_vend _ _) (.replan hev (.of_vend (by simp) h))
  · exact h

/-! ### The session -/

theorem askPayout (h : s.OnTerms a) : (s.askPayout ev).OnTerms a := by
  unfold State.askPayout
  dsimp only
  split
  · exact h
  · exact .createSessionOrder hev h

theorem payOrIdle (h : s.OnTerms a) : (s.payOrIdle ev).OnTerms a := by
  unfold State.payOrIdle
  split
  · exact .askPayout hev h
  · exact h

theorem actCancel {idle : Bool} (h : s.OnTerms a) : (s.actCancel ev idle).OnTerms a := by
  refine .payOrIdle hev (.of_vend ?_ h)
  split <;> simp

theorem cancelOrStay {idle : Bool} (h : s.OnTerms a) : (s.cancelOrStay ev idle).OnTerms a := by
  unfold State.cancelOrStay
  split
  · exact .actCancel hev h
  · exact .of_vend (by simp) h

theorem sessionVendEnd {o : VendOutcome} {idle : Bool} (h : s.OnTerms a) :
    (s.sessionVendEnd ev o idle).OnTerms a := by
  unfold State.sessionVendEnd
  split
  · split
    · exact .actCancel hev h
    · exact .cancelOrStay hev h
  · exact .cancelOrStay hev h
  · exact .cancelOrStay hev h

/-! ### The vend -/

theorem endVend {o : VendOutcome} {r : Option VendReason} (h : s.OnTerms a) : (s.endVend ev o r).OnTerms a := by
  unfold State.endVend
  split
  · exact h
  · have ended : ((s.setVend none).giveUp ev .vend).OnTerms a := .giveUp hev (.of_none rfl)
    dsimp only
    split
    · exact .sessionVendEnd hev ended
    · exact ended

theorem endVendUnlessDrop {o : VendOutcome} {r : VendReason} (h : s.OnTerms a) :
    (s.endVendUnlessDrop ev o r).OnTerms a := by
  unfold State.endVendUnlessDrop
  split
  · exact h
  · split <;> exact .endVend hev h

theorem abortVend (h : s.OnTerms a) : (s.abortVend ev).OnTerms a := by
  unfold State.abortVend
  split
  · exact h
  next c inFlight =>
    have onTerms := h c inFlight
    split
    · exact h
    · dsimp only
      split
      · exact .endVendUnlessDrop hev (.setVend onTerms)
      · exact .setVend onTerms

theorem switchOn {homing : Bool} (h : s.OnTerms a) : (s.switchOn ev homing).OnTerms a := by
  unfold State.switchOn
  split
  · exact h
  next c inFlight =>
    have onTerms := h c inFlight
    split
    · exact h
    · split
      · exact .setVend onTerms
      · exact .abortVend hev (.setVend onTerms)

theorem startOnNewLane (h : s.OnTerms a) : (s.startOnNewLane ev).OnTerms a := by
  unfold State.startOnNewLane
  split
  · exact h
  · split
    · exact h
    · exact .switchOn hev h

/-- The lane left may give way to a later lane of the chain; the chain is the same. -/
theorem leaveLane {k : LeaveCause} (h : s.OnTerms a) : (s.leaveLane ev k).OnTerms a := by
  unfold State.leaveLane
  split
  · exact h
  next c inFlight =>
    have onTerms := h c inFlight
    split
    · exact .endVend hev (.setVend onTerms)
    · dsimp only
      split
      · exact .endVend hev (.setVend onTerms)
      · refine .startOnNewLane hev (.setVend ?_)
        split <;> exact onTerms

theorem leaveAfterWindow {k : LeaveCause} (h : s.OnTerms a) : (s.leaveAfterWindow ev k).OnTerms a := by
  unfold State.leaveAfterWindow
  split
  · exact h
  next c inFlight =>
    split
    · exact .setVend (h c inFlight)
    · exact .leaveLane hev h

theorem startRun {homing : Bool} (h : s.OnTerms a) : (s.startRun ev homing).OnTerms a := by
  unfold State.startRun
  split
  · exact h
  · split
    · exact h
    · split
      · exact .leaveAfterWindow hev h
      · exact .switchOn hev h

theorem vendGranted (h : s.OnTerms a) : (s.vendGranted ev).OnTerms a := by
  unfold State.vendGranted
  split
  · exact h
  next c inFlight =>
    split
    · split
      · exact h
      · exact .startRun hev (.setVend (h c inFlight))
    · exact h

omit hev in
theorem recordDrop (h : s.OnTerms a) : s.recordDrop.OnTerms a := by
  unfold State.recordDrop
  split
  · exact h
  next c inFlight =>
    have recorded : (s.setVend (some { c with dropSeen := some c.current })).OnTerms a := .setVend (h c inFlight)
    dsimp only
    split <;> exact recorded

theorem dropSensed (h : s.OnTerms a) : (s.dropSensed ev).OnTerms a := by
  unfold State.dropSensed
  split
  · exact h
  · split
    · dsimp only
      split
      · exact .endVend hev h.recordDrop
      · exact h.recordDrop
    · exact h

theorem turnCompleted (h : s.OnTerms a) : (s.turnCompleted ev).OnTerms a := by
  unfold State.turnCompleted
  split
  · exact h
  next c inFlight =>
    split
    · exact .endVend hev h
    · split
      · exact .endVend hev h.recordDrop
      · exact .setVend (h c inFlight)

theorem driveFailure {k : FaultCause} (h : s.OnTerms a) : (s.driveFailure ev k).OnTerms a := by
  unfold State.driveFailure
  split
  · exact h
  next c inFlight =>
    have reported : ((s.setVend (some { c with limitCause := none })).driveFaultReport c.current k).OnTerms a :=
      .of_vend (by simp) (.setVend (s := s) (c := { c with limitCause := none }) (h c inFlight))
    dsimp only
    split
    · exact .endVendUnlessDrop hev reported
    · exact .leaveAfterWindow hev reported

theorem stoppedAtHome (h : s.OnTerms a) : (s.stoppedAtHome ev).OnTerms a := by
  unfold State.stoppedAtHome
  split
  · exact h
  next c inFlight =>
    have atHome : ((s.setVend (some { c with limitCause := none })).positionReport c.current .home).OnTerms a :=
      .setVend (h c inFlight)
    dsimp only
    split
    · exact .endVend hev atHome
    · split
      · split
        · exact .endVend hev atHome
        · exact .startRun hev atHome
      · exact .turnCompleted hev atHome

theorem stoppedCommanded (h : s.OnTerms a) : (s.stoppedCommanded ev).OnTerms a := by
  unfold State.stoppedCommanded
  split
  · exact h
  · split
    · exact .driveFailure hev h
    · split
      · exact .endVendUnlessDrop hev h
      · exact .turnCompleted hev h

theorem stopped {k : StopCause} (h : s.OnTerms a) : (s.stopped ev k).OnTerms a := by
  unfold State.stopped
  split
  · exact h
  next c inFlight =>
    have limitsStopped : (s.setVend (some { c with tStart := none, tCycle := none, runTime := none })).OnTerms a :=
      .setVend (h c inFlight)
    refine .mapVend (fun _ => rfl) ?_
    cases k with
    | atHome => exact .stoppedAtHome hev limitsStopped
    | commanded => exact .stoppedCommanded hev limitsStopped
    | stall => exact .driveFailure hev limitsStopped
    | openCircuit => exact .driveFailure hev limitsStopped
    | abort => exact .abortVend hev limitsStopped

theorem switchOff {k : StopCause} (h : s.OnTerms a) : (s.switchOff ev k).OnTerms a := by
  unfold State.switchOff
  split
  · exact h
  · exact .of_vend (State.mapDrive_vend _ _) (.stopped hev h)

omit hev in
theorem homeOpened (h : s.OnTerms a) : s.homeOpened.OnTerms a := by
  unfold State.homeOpened
  split
  · exact h
  next c inFlight => exact .setVend (h c inFlight)

theorem takeHomeLevel {v : HomeLevel} (h : s.OnTerms a) : (s.takeHomeLevel ev v).OnTerms a := by
  unfold State.takeHomeLevel
  split
  · exact h
  split
  · exact h
  dsimp only
  split
  · exact h
  · split
    · exact h
    · exact .homeOpened h
  · split
    · exact .switchOff hev h
    · exact h

theorem afterWindow (onTerms : c.terms = a) : (s.afterWindow ev c).OnTerms a := by
  have closed : (s.setVend (some { c with window := .closed })).OnTerms a := .setVend onTerms
  unfold State.afterWindow
  dsimp only
  split
  · exact .endVendUnlessDrop hev closed
  split
  · exact .leaveLane hev closed
  split
  · exact .startRun hev (.setVend onTerms)
  · exact .leaveLane hev closed

theorem windowCloses (h : s.OnTerms a) : (s.windowCloses ev).OnTerms a := by
  unfold State.windowCloses
  split
  · exact h
  next c inFlight =>
    split
    · exact .mapVend (fun _ => rfl) (.afterWindow hev (h c inFlight))
    · exact h

/-! ### The Cooling Controller -/

theorem defrostGoesOn (h : s.OnTerms a) : (s.defrostGoesOn ev).OnTerms a := .request hev h

theorem stopCompressor (h : s.OnTerms a) : (s.stopCompressor ev).OnTerms a := by
  have released : ((s.setCooling s.cooling.stopped).giveUp ev .compressor).OnTerms a := .giveUp hev h
  unfold State.stopCompressor
  dsimp only
  split
  · exact .defrostGoesOn hev released
  · exact released

theorem withdrawCompressor (h : s.OnTerms a) : (s.withdrawCompressor ev).OnTerms a := .giveUp hev h

theorem requestCompressor (h : s.OnTerms a) : (s.requestCompressor ev).OnTerms a := .request hev h

theorem updateCompressor (h : s.OnTerms a) : (s.updateCompressor ev).OnTerms a := by
  unfold State.updateCompressor
  split
  · exact h
  · split
    · exact .requestCompressor hev h
    · exact h
  · split
    · exact h
    · exact .withdrawCompressor hev h
  · split
    · exact .stopCompressor hev h
    · exact h
  · split
    · exact .stopCompressor hev h
    · exact h

theorem setCall {call : Bool} (h : s.OnTerms a) : (s.setCall ev call).OnTerms a := by
  unfold State.setCall
  split
  · exact h
  · exact .updateCompressor hev h

theorem evaluateThermostat (h : s.OnTerms a) : (s.evaluateThermostat ev).OnTerms a := by
  unfold State.evaluateThermostat
  split
  · exact .setCall hev h
  · exact h

theorem yieldCompressor (h : s.OnTerms a) : (s.yieldCompressor ev).OnTerms a := by
  unfold State.yieldCompressor
  split
  · split
    · exact .stopCompressor hev h
    · exact h
  · exact h
  · exact h

theorem revokeCompressor (h : s.OnTerms a) : (s.revokeCompressor ev).OnTerms a := by
  unfold State.revokeCompressor
  split
  · exact .stopCompressor hev h
  · exact h

theorem minimumRunExpires (h : s.OnTerms a) : (s.minimumRunExpires ev).OnTerms a := by
  unfold State.minimumRunExpires
  split
  · dsimp only
    split
    · exact .stopCompressor hev h
    · exact h
  · exact h

theorem defrostDue (h : s.OnTerms a) : (s.defrostDue ev).OnTerms a := by
  unfold State.defrostDue
  split
  · dsimp only
    split
    · exact .defrostGoesOn hev h
    · exact .defrostGoesOn hev h
    · exact .defrostGoesOn hev (.withdrawCompressor hev h)
    · split
      · exact .stopCompressor hev h
      · exact h
    · split
      · exact .stopCompressor hev h
      · exact h
  · exact h

theorem checkDefrostInterval (h : s.OnTerms a) : (s.checkDefrostInterval ev).OnTerms a := by
  unfold State.checkDefrostInterval
  split
  · exact .defrostDue hev h
  · exact h

theorem dripEnds (h : s.OnTerms a) : (s.dripEnds ev).OnTerms a := .updateCompressor hev h

theorem heatingEnds (h : s.OnTerms a) : (s.heatingEnds ev).OnTerms a := by
  have dripping : ((s.setCooling { s.cooling with
      defrost := .dripping, drip := some (Timer.start s.cooling.settings.dripMs) }).giveUp ev .defrost).OnTerms a :=
    .giveUp hev h
  unfold State.heatingEnds
  dsimp only
  split
  · exact .dripEnds hev dripping
  · exact dripping

theorem defrostGranted (h : s.OnTerms a) : (s.defrostGranted ev).OnTerms a := by
  unfold State.defrostGranted
  split
  · split
    · exact .heatingEnds hev h
    · exact h
  · exact h

theorem yieldDefrost (h : s.OnTerms a) : (s.yieldDefrost ev).OnTerms a := by
  unfold State.yieldDefrost
  split
  · exact .request hev (.giveUp hev h)
  · exact h

theorem beginFallback (h : s.OnTerms a) : (s.beginFallback ev).OnTerms a := .setCall hev h

theorem sampleCabinet {r : LastSample} (h : s.OnTerms a) : (s.sampleCabinet ev r).OnTerms a := by
  unfold State.sampleCabinet
  dsimp only
  split
  · split
    · exact .of_vend (State.evaluateHold_vend _) (.beginFallback hev (.of_vend (by simp) h))
    · exact .of_vend (State.evaluateHold_vend _) (.evaluateThermostat hev (.of_vend (by simp) h))
  · split
    · exact .of_vend (State.evaluateHold_vend _) (.evaluateThermostat hev (.of_vend (by simp) h))
    · exact .of_vend (by simp) h

theorem sampleCoil {r : LastSample} (h : s.OnTerms a) : (s.sampleCoil ev r).OnTerms a := by
  unfold State.sampleCoil
  dsimp only
  split
  · exact .heatingEnds hev (.of_vend (by simp) h)
  · exact .of_vend (by simp) h

/-! ### The evaluation -/

omit hev in
theorem payoutGranted (h : s.OnTerms a) : s.payoutGranted.OnTerms a := by
  unfold State.payoutGranted
  split
  · exact h
  · split
    · exact .of_vend (State.pulseNext_vend _ _) h
    · exact h

theorem tellGranted {k : Consumer} (h : s.OnTerms a) : (s.tellGranted ev k).OnTerms a := by
  cases k with
  | payout => exact .payoutGranted h
  | vend => exact .vendGranted hev h
  | compressor => exact .of_vend (State.compressorGranted_vend s) h
  | defrost => exact .defrostGranted hev h

theorem tellAll (ks : List Consumer) (h : s.OnTerms a) : (State.tellAll ev ks s).OnTerms a := by
  induction ks generalizing s with
  | nil => exact h
  | cons k ks ih => exact ih (.tellGranted hev h)

theorem sendYields {g : GrantTable} (h : s.OnTerms a) : (s.sendYields ev g).OnTerms a := by
  unfold State.sendYields
  split
  · have compressorTold : (if g.compressor.isGranted then s.yieldCompressor ev else s).OnTerms a := by
      split
      · exact .yieldCompressor hev h
      · exact h
    dsimp only
    split
    · exact .yieldDefrost hev compressorTold
    · exact compressorTold
  · exact h

theorem evaluateOnce (h : s.OnTerms a) : (s.evaluateOnce ev).OnTerms a := by
  unfold State.evaluateOnce
  split
  · exact h
  · exact .sendYields hev (.tellAll hev _ h)

end

theorem evaluateDepth (n : Nat) (h : s.OnTerms a) : (State.evaluateDepth n s).OnTerms a := by
  induction n generalizing s with
  | zero => exact h
  | succ n ih => exact .evaluateOnce (fun _ => ih) h

theorem evaluate (s : State) (h : s.OnTerms a) : s.evaluate.OnTerms a := .evaluateDepth 32 h

end State.OnTerms

end Sys2Proof.Machine
end

section
/-! PROOFS. The commands and the terms of an operation in flight (07_the_vend.md, R118): the commands that do not reach
the Vend Engine, then those that do, by the shared operations that they are made of. -/
namespace Sys2Proof.Machine

/-! ## What the requests leave of the Vend Engine

The requests on the lanes, the windows and the money side answer from their own records. -/

section
variable (s : State)

theorem State.lookupAnswer_state (code : Half) : (s.lookupAnswer code).state = s := by
  unfold State.lookupAnswer
  split
  · rfl
  · dsimp only
    split
    · rfl
    · split <;> rfl

theorem State.setLaneAnswer_vend (lane : Byte) (p : LaneParams) : (s.setLaneAnswer lane p).state.vend = s.vend := by
  unfold State.setLaneAnswer
  split
  · rfl
  split
  · rfl
  split <;> rfl

theorem State.onFittedLane_vend {lane : Byte} {f : LaneNo → FittedLane → Answer}
    (same : ∀ l r, (f l r).state.vend = s.vend) : (s.onFittedLane lane f).state.vend = s.vend := by
  unfold State.onFittedLane
  split
  · rfl
  split
  · rfl
  split
  · rfl
  · exact same _ _

theorem State.setLinkAnswer_vend (lane alternate : Byte) : (s.setLinkAnswer lane alternate).state.vend = s.vend := by
  unfold State.setLinkAnswer
  split
  · rfl
  · refine s.onFittedLane_vend fun l f => ?_
    split <;> rfl

theorem State.clearFault_vend (l : LaneNo) (f : FittedLane) : (s.clearFault l f).vend = s.vend := by
  unfold State.clearFault
  split <;> rfl

theorem State.addCashless_vend (granted : Nat) : (s.addCashless granted).vend = s.vend := by
  unfold State.addCashless
  dsimp only
  split <;> simp

theorem State.grantAnswer_vend (amount : Nat) : (s.grantAnswer amount).state.vend = s.vend := by
  unfold State.grantAnswer
  split
  · rfl
  · exact s.addCashless_vend _

theorem State.setTubeAnswer_vend (tube : Byte) (p : TubeParams) : (s.setTubeAnswer tube p).state.vend = s.vend := by
  unfold State.setTubeAnswer
  split
  · rfl
  split
  · rfl
  · exact State.evaluateExact_vend _

theorem State.setTubeCountAnswer_vend (tube count : Byte) :
    (s.setTubeCountAnswer tube count).state.vend = s.vend := by
  unfold State.setTubeCountAnswer
  split
  · rfl
  dsimp only
  split
  · rfl
  split
  · rfl
  · exact State.evaluateExact_vend _

theorem State.clearTubeFaultAnswer_vend (tube : Byte) : (s.clearTubeFaultAnswer tube).state.vend = s.vend := by
  unfold State.clearTubeFaultAnswer
  split
  · rfl
  dsimp only
  split
  · rfl
  split
  · exact State.evaluateExact_vend _
  · rfl

theorem State.storeImageAnswer_vend : s.storeImageAnswer.state.vend = s.vend := by
  unfold State.storeImageAnswer
  split
  · rfl
  split <;> rfl

theorem State.presentCoin_vend (y : Option CoinTypeNo) : (s.presentCoin y).vend = s.vend := by
  unfold State.presentCoin
  split
  · rfl
  split
  · rfl
  dsimp only
  split <;> rfl

theorem State.depositCoin_vend (r : Route) (value : Nat) : (s.depositCoin r value).vend = s.vend := by
  unfold State.depositCoin
  split
  · rfl
  split
  · rfl
  · exact State.evaluateExact_vend _

theorem State.confirmCoin_vend : s.confirmCoin.vend = s.vend := by
  unfold State.confirmCoin
  split
  · rfl
  · simp [State.depositCoin_vend]

theorem State.latchIfReached_vend : s.latchIfReached.vend = s.vend := by
  unfold State.latchIfReached
  split <;> rfl

theorem State.sampleAtWarning_vend (millivolts : Nat) : (s.sampleAtWarning millivolts).vend = s.vend := by
  unfold State.sampleAtWarning
  dsimp only
  split <;> exact State.sampleCell_vend _ _

end

/-! ## What the commands leave of the terms -/

namespace State.OnTerms

variable {a : Terms} {s t : State}

theorem frame {n : Nat} {code : Byte} {f : State → Answer} (ran : s.frame n code f = .next t) (h : s.OnTerms a)
    (answer : (f s).state.OnTerms a) : t.OnTerms a := by
  cases ran
  split
  · exact answer
  · exact h

theorem event {f : State → State} (ran : s.event f = .next t) (h : s.OnTerms a) (effect : (f s).OnTerms a) :
    t.OnTerms a := by
  cases ran
  split
  · exact effect
  · exact h

/-! ### Requests -/

theorem leaveQuiet (h : s.OnTerms a) : s.leaveQuiet.OnTerms a := by
  unfold State.leaveQuiet
  split
  · exact .evaluateThermostat evaluate h
  · exact h

theorem wakeEvent {enabled : Bool} (h : s.OnTerms a) : (s.wakeEvent enabled).OnTerms a := by
  unfold State.wakeEvent
  split
  · exact .leaveQuiet h
  · exact h

theorem cancelled (h : s.OnTerms a) : s.cancelled.OnTerms a := by
  unfold State.cancelled
  split
  · exact .of_vend (State.timerReplacing_vend _ _) (.actCancel evaluate h)
  · exact h
  · exact h
  · exact h

theorem dispenseAnswer {tube coins : Byte} (h : s.OnTerms a) : (s.dispenseAnswer tube coins).state.OnTerms a := by
  unfold State.dispenseAnswer
  split
  · exact h
  split
  · exact h
  split
  · exact h
  split
  · exact h
  split
  · exact h
  · exact .createDispenseOrder evaluate h

theorem applyCooling {c : CoolingSettings} (h : s.OnTerms a) : (s.applyCooling c).OnTerms a := by
  have held : ((s.withCoolingSettings c).evaluateThermostat State.evaluate).evaluateHold.latchIfReached.OnTerms a :=
    .of_vend ((State.latchIfReached_vend _).trans (State.evaluateHold_vend _)) (.evaluateThermostat evaluate h)
  refine .updateCompressor evaluate ?_
  unfold State.endLongHeating
  split
  · exact .heatingEnds evaluate (.checkDefrostInterval evaluate held)
  · exact .checkDefrostInterval evaluate held

theorem releaseHoldAnswer (h : s.OnTerms a) : s.releaseHoldAnswer.state.OnTerms a := by
  unfold State.releaseHoldAnswer
  split
  · exact h
  split <;> exact h

theorem startDefrostAnswer (h : s.OnTerms a) : s.startDefrostAnswer.state.OnTerms a := by
  unfold State.startDefrostAnswer
  split
  · exact .defrostDue evaluate h
  · exact h

theorem enterQuietAnswer (h : s.OnTerms a) : s.enterQuietAnswer.state.OnTerms a := by
  unfold State.enterQuietAnswer
  split
  · exact h
  split
  · exact .evaluateThermostat evaluate h
  · exact h

/-- While an operation is in flight a VEND is refused (R117 check 4). -/
theorem vendAnswer {code : Half} (busy : s.vend.context.isSome) (h : s.OnTerms a) :
    (s.vendAnswer code).state.OnTerms a := by
  unfold State.vendAnswer
  split
  · exact h
  split
  · exact h
  split
  · exact h
  rw [if_pos (.inr busy)]
  exact h

/-- While an operation is in flight the service requests are refused (R138, R139). -/
theorem serviceLane {lane : Byte} {f : LaneNo → FittedLane → Answer} (busy : s.vend.context.isSome)
    (h : s.OnTerms a) : (s.serviceLane lane f).state.OnTerms a := by
  unfold State.serviceLane
  split
  · exact h
  split
  · exact h
  split
  · exact h
  rw [if_pos (.inr busy)]
  exact h

/-! ### Events -/

theorem clampTube {n : TubeNo} {sensor : TubeSensor} (h : s.OnTerms a) : (s.clampTube n sensor).OnTerms a := by
  unfold State.clampTube
  dsimp only
  split
  · exact h
  split
  · exact .takeTrim evaluate (.of_vend (State.evaluateExact_vend _) h)
  · exact .of_vend (State.evaluateExact_vend _) h

theorem takeCassette {new : CassetteState} (h : s.OnTerms a) : (s.takeCassette new).OnTerms a := by
  unfold State.takeCassette
  dsimp only
  split
  · exact h
  split
  · exact .of_vend (State.evaluateExact_vend _) h
  split
  · exact .endOrder evaluate (.of_vend (State.evaluateExact_vend _) h)
  · exact h

theorem payoutWaitExpires (h : s.OnTerms a) : s.payoutWaitExpires.OnTerms a := by
  unfold State.payoutWaitExpires
  split
  · exact h
  split
  · exact .endOrder evaluate h
  · exact h

theorem takeStartLevel {level : HomeLevel} (h : s.OnTerms a) : (s.takeStartLevel level).OnTerms a := by
  unfold State.takeStartLevel
  split
  · exact h
  split
  · exact h
  · exact .takeHomeLevel evaluate h

theorem changeHomeLevel {level : HomeLevel} (h : s.OnTerms a) : (s.changeHomeLevel level).OnTerms a := by
  unfold State.changeHomeLevel
  split
  · exact h
  split
  · exact h
  · exact .takeHomeLevel evaluate h

theorem stallEnds (h : s.OnTerms a) : s.stallEnds.OnTerms a := by
  unfold State.stallEnds
  split
  · exact h
  split
  · exact .switchOff evaluate h
  · exact h

theorem openChecked {milliamps : Nat} (h : s.OnTerms a) : (s.openChecked milliamps).OnTerms a := by
  unfold State.openChecked
  split
  · exact h
  split
  · exact h
  split
  · exact .switchOff evaluate h
  · exact h

theorem vendWaitExpires (h : s.OnTerms a) : s.vendWaitExpires.OnTerms a := by
  unfold State.vendWaitExpires
  split
  · exact h
  split
  · exact .endVend evaluate h
  · exact h

theorem tStartExpires (h : s.OnTerms a) : s.tStartExpires.OnTerms a := by
  unfold State.tStartExpires
  split
  · exact h
  next c inFlight =>
    split
    · exact .switchOff evaluate (.setVend (h c inFlight))
    · exact h

theorem tCycleExpires (h : s.OnTerms a) : s.tCycleExpires.OnTerms a := by
  unfold State.tCycleExpires
  split
  · exact h
  next c inFlight =>
    split
    · exact .switchOff evaluate (.setVend (h c inFlight))
    · exact h

theorem runTimeExpires (h : s.OnTerms a) : s.runTimeExpires.OnTerms a := by
  unfold State.runTimeExpires
  split
  · exact h
  next c inFlight =>
    split
    · exact .switchOff evaluate (.setVend (h c inFlight))
    · exact h

theorem fallbackEnds (h : s.OnTerms a) : s.fallbackEnds.OnTerms a := by
  unfold State.fallbackEnds
  split
  · exact h
  · exact .setCall evaluate h
  · exact .beginFallback evaluate h

theorem startIntervalEnds (h : s.OnTerms a) : s.startIntervalEnds.OnTerms a := by
  unfold State.startIntervalEnds
  split
  · exact .reduceCompressor evaluate h
  · exact h

theorem minimumOffEnds (h : s.OnTerms a) : s.minimumOffEnds.OnTerms a := by
  unfold State.minimumOffEnds
  split
  · exact .updateCompressor evaluate h
  · exact h

theorem countRun (h : s.OnTerms a) : s.countRun.OnTerms a := by
  unfold State.countRun
  split
  · exact .checkDefrostInterval evaluate h
  · exact h

theorem maximumDefrost (h : s.OnTerms a) : s.maximumDefrost.OnTerms a := by
  unfold State.maximumDefrost
  split
  · exact .heatingEnds evaluate h
  · exact h

theorem holdDelayReached (h : s.OnTerms a) : s.holdDelayReached.OnTerms a := by
  unfold State.holdDelayReached
  split <;> exact h

theorem supplyHits (h : s.OnTerms a) : s.supplyHits.OnTerms a := by
  have aborted : ((s.switchOff State.evaluate .abort).revokeAll.abortVend State.evaluate).OnTerms a :=
    .abortVend evaluate (.of_vend (State.revokeAll_vend _) (.switchOff evaluate h))
  refine .yieldDefrost evaluate (.revokeCompressor evaluate ?_)
  split
  · exact .endOrder evaluate aborted
  · exact aborted

/-- A start ends an operation (R115). -/
theorem completeStart (kind : StartKind) (badImage : Bool) (i : StartInputs) (s : State) :
    (s.completeStart kind badImage i).OnTerms a := by
  refine .checkDefrostInterval evaluate (.of_none ?_)
  simp [State.foundAsserted]

theorem loadImage (acknowledged : Bool) (i : StartInputs) (s : State) : (s.loadImage acknowledged i).OnTerms a := by
  unfold State.loadImage
  split <;> exact completeStart _ _ _ _

end State.OnTerms

end Sys2Proof.Machine
end

section
/-! PROOFS. The chain is fixed at acceptance and follows at most two links (07_the_vend.md, R118): every command keeps
the terms, an accepted VEND gives them, and the chain is built link by link. -/
namespace Sys2Proof.Machine

/-- No command changes the terms of an operation in flight: it ends the operation or leaves them. -/
theorem exec_keeps_terms {a : Terms} {s t : State} (i : Instr) (busy : s.vend.context.isSome) (h : s.OnTerms a)
    (ran : exec i s = .next t) : t.OnTerms a := by
  cases i with dsimp only [exec] at ran
  | nop extra => unfold execNop at ran; exact .frame ran h h
  | frameError bytes partBits => unfold execFrameError at ran; exact .frame ran h h
  | unknownRequest code extra => unfold execUnknownRequest at ran; exact .frame ran h h
  | linkReset =>
    unfold execLinkReset at ran
    cases ran
    exact h
  | lrstNRelease =>
    unfold execLrstNRelease at ran
    cases ran
    exact h
  | readAttention => unfold execReadAttention at ran; exact .frame ran h h
  | ackAttention word => unfold execAckAttention at ran; exact .frame ran h h
  | setAttentionMask word => unfold execSetAttentionMask at ran; exact .frame ran h h
  | lookup code => unfold execLookup at ran; exact .frame ran h (by rwa [State.lookupAnswer_state])
  | readLane lane =>
    unfold execReadLane at ran
    refine .frame ran h ?_
    split <;> exact h
  | setLane lane p => unfold execSetLane at ran; exact .frame ran h (.of_vend (State.setLaneAnswer_vend s lane p) h)
  | setLink lane alternate =>
    unfold execSetLink at ran
    exact .frame ran h (.of_vend (State.setLinkAnswer_vend s lane alternate) h)
  | restock lane count =>
    unfold execRestock at ran
    exact .frame ran h (.of_vend (State.onFittedLane_vend s fun _ _ => rfl) h)
  | retireLane lane =>
    unfold execRetireLane at ran
    exact .frame ran h (.of_vend (State.onFittedLane_vend s fun _ _ => rfl) h)
  | clearLaneFault lane =>
    unfold execClearLaneFault at ran
    exact .frame ran h (.of_vend (State.onFittedLane_vend s fun l f => State.clearFault_vend s l f) h)
  | setWindow window p =>
    unfold execSetWindow at ran
    refine .frame ran h ?_
    dsimp only
    split <;> exact h
  | readWindow window =>
    unfold execReadWindow at ran
    refine .frame ran h ?_
    split <;> exact h
  | vend code =>
    unfold execVend at ran
    have same := State.activity_vend s
    exact .frame ran h (.vendAnswer (by rwa [same]) (.of_vend same h))
  | testVend lane => unfold execTestVend at ran; exact .frame ran h (.serviceLane busy h)
  | homeLane lane => unfold execHomeLane at ran; exact .frame ran h (.serviceLane busy h)
  | readVendResult => unfold execReadVendResult at ran; exact .frame ran h h
  | grantCashless amount =>
    unfold execGrantCashless at ran
    refine .frame ran h ?_
    split
    · exact h
    · exact .of_vend (State.grantAnswer_vend _ _) (.wakeEvent h)
  | cancel => unfold execCancel at ran; exact .frame ran h (.cancelled h)
  | readSession => unfold execReadSession at ran; exact .frame ran h h
  | setAccept mode =>
    unfold execSetAccept at ran
    refine .frame ran h ?_
    dsimp only
    split <;> exact h
  | setCoinType type p =>
    unfold execSetCoinType at ran
    refine .frame ran h ?_
    dsimp only
    split <;> exact h
  | setTube tube p => unfold execSetTube at ran; exact .frame ran h (.of_vend (State.setTubeAnswer_vend s tube p) h)
  | setTubeCount tube count =>
    unfold execSetTubeCount at ran
    exact .frame ran h (.of_vend (State.setTubeCountAnswer_vend s tube count) h)
  | clearTubeFault tube =>
    unfold execClearTubeFault at ran
    exact .frame ran h (.of_vend (State.clearTubeFaultAnswer_vend s tube) h)
  | setProbes p => unfold execSetProbes at ran; exact .frame ran h (.of_vend (State.evaluateExact_vend _) h)
  | readTubes => unfold execReadTubes at ran; exact .frame ran h h
  | dispense tube coins => unfold execDispense at ran; exact .frame ran h (.dispenseAnswer h)
  | readPayoutResult => unfold execReadPayoutResult at ran; exact .frame ran h h
  | clearCashbox => unfold execClearCashbox at ran; exact .frame ran h h
  | setCooling p =>
    unfold execSetCooling at ran
    refine .frame ran h ?_
    split
    · exact h
    · exact .applyCooling h
  | readCooling => unfold execReadCooling at ran; exact .frame ran h h
  | releaseHold => unfold execReleaseHold at ran; exact .frame ran h (.releaseHoldAnswer h)
  | startDefrost => unfold execStartDefrost at ran; exact .frame ran h (.startDefrostAnswer h)
  | setBudget p =>
    unfold execSetBudget at ran
    refine .frame ran h ?_
    dsimp only
    split
    · exact h
    · exact .evaluate _ h
  | readBudget => unfold execReadBudget at ran; exact .frame ran h h
  | enterQuiet => unfold execEnterQuiet at ran; exact .frame ran h (.enterQuietAnswer h)
  | wake => unfold execWake at ran; exact .frame ran h (.leaveQuiet h)
  | setWakeSources p =>
    unfold execSetWakeSources at ran
    refine .frame ran h ?_
    dsimp only
    split <;> exact h
  | readSupply clear =>
    unfold execReadSupply at ran
    refine .frame ran h ?_
    dsimp only
    split <;> exact h
  | setMachine p =>
    unfold execSetMachine at ran
    refine .frame ran h ?_
    split <;> exact h
  | storeImage => unfold execStoreImage at ran; exact .frame ran h (.of_vend (State.storeImageAnswer_vend s) h)
  | storeEnd failedAfter =>
    unfold execStoreEnd at ran
    refine .event ran h ?_
    split <;> exact h
  | coinPresented type =>
    unfold execCoinPresented at ran
    exact .event ran h (.wakeEvent (.of_vend (State.presentCoin_vend s type) h))
  | acceptSensorPulse => unfold execAcceptSensorPulse at ran; exact .event ran h (.of_vend (State.confirmCoin_vend s) h)
  | transitLimitExpiry =>
    unfold execTransitLimitExpiry at ran
    refine .event ran h ?_
    split <;> exact h
  | levelSensorTransition tube sensor covered =>
    unfold execLevelSensorTransition at ran
    refine .event ran h ?_
    split
    · exact h
    · exact .clampTube h
  | cassetteContactChange contact closed codePins =>
    unfold execCassetteContactChange at ran
    refine .event ran h ?_
    dsimp only
    split
    · exact h
    · exact .takeCassette h
  | payoutBudgetWaitExpiry => unfold execPayoutBudgetWaitExpiry at ran; exact .event ran h (.payoutWaitExpires h)
  | payoutSensorPulse => unfold execPayoutSensorPulse at ran; exact .event ran h (.confirmPayout .evaluate h)
  | payoutCoinLimitExpiry => unfold execPayoutCoinLimitExpiry at ran; exact .event ran h (.payoutLimit .evaluate h)
  | sessionTimeoutExpiry =>
    unfold execSessionTimeoutExpiry at ran
    refine .event ran h ?_
    split
    · exact .of_vend (State.sessionTimeout_vend s) h
    · exact h
  | startLevelTaken level => unfold execStartLevelTaken at ran; exact .event ran h (.takeStartLevel h)
  | homeLevelChange level => unfold execHomeLevelChange at ran; exact .event ran h (.changeHomeLevel h)
  | driveCurrentChange milliamps =>
    unfold execDriveCurrentChange at ran
    refine .event ran h ?_
    split <;> exact h
  | stallDebounceExpiry => unfold execStallDebounceExpiry at ran; exact .event ran h (.stallEnds h)
  | openCheck milliamps => unfold execOpenCheck at ran; exact .event ran h (.openChecked h)
  | vendBudgetWaitExpiry => unfold execVendBudgetWaitExpiry at ran; exact .event ran h (.vendWaitExpires h)
  | tStartExpiry => unfold execTStartExpiry at ran; exact .event ran h (.tStartExpires h)
  | tCycleExpiry => unfold execTCycleExpiry at ran; exact .event ran h (.tCycleExpires h)
  | runTimeExpiry => unfold execRunTimeExpiry at ran; exact .event ran h (.runTimeExpires h)
  | dropSeen => unfold execDropSeen at ran; exact .event ran h (.dropSensed .evaluate h)
  | dropWindowClose => unfold execDropWindowClose at ran; exact .event ran h (.windowCloses .evaluate h)
  | thermistorSample channel reading =>
    unfold execThermistorSample at ran
    refine .event ran h ?_
    cases channel with
    | cabinet => exact .sampleCabinet .evaluate h
    | coil => exact .sampleCoil .evaluate h
  | fallbackPhaseEnd => unfold execFallbackPhaseEnd at ran; exact .event ran h (.fallbackEnds h)
  | startIntervalEnd => unfold execStartIntervalEnd at ran; exact .event ran h (.startIntervalEnds h)
  | minimumRunExpiry => unfold execMinimumRunExpiry at ran; exact .event ran h (.minimumRunExpires .evaluate h)
  | minimumOffEnd => unfold execMinimumOffEnd at ran; exact .event ran h (.minimumOffEnds h)
  | accumulatedRunCount => unfold execAccumulatedRunCount at ran; exact .event ran h (.countRun h)
  | maximumDefrostReached => unfold execMaximumDefrostReached at ran; exact .event ran h (.maximumDefrost h)
  | dripEnd =>
    unfold execDripEnd at ran
    refine .event ran h ?_
    split
    · exact .dripEnds .evaluate h
    · exact h
  | holdDelayReached => unfold execHoldDelayReached at ran; exact .event ran h (.holdDelayReached h)
  | supplyEvent kind railMillivolts =>
    unfold execSupplyEvent at ran
    refine .event ran h ?_
    split
    · exact .supplyHits (.of_vend (State.assertSupply_vend kind s) h)
    · exact h
  | supplyCleared kind railMillivolts =>
    unfold execSupplyCleared at ran
    have cleared : (s.clearSupply kind).OnTerms a := .of_vend (State.clearSupply_vend kind s) h
    refine .event ran h ?_
    dsimp only
    split
    · split
      · exact .evaluate _ cleared
      · exact cleared
    · exact h
  | doorChange level =>
    unfold execDoorChange at ran
    refine .event ran h ?_
    dsimp only
    split
    · exact h
    · exact .wakeEvent h
  | cellSample millivolts =>
    unfold execCellSample at ran
    exact .event ran h (.of_vend (State.sampleCell_vend millivolts s) h)
  | powerFailWarning cellMillivolts =>
    unfold execPowerFailWarning at ran
    cases ran
    exact .of_vend (State.sampleAtWarning_vend _ cellMillivolts) h
  | rstNAssertion =>
    unfold execRstNAssertion at ran
    cases ran
    exact h
  | warmStart memoryFitted cellMillivolts inputs =>
    unfold execWarmStart at ran
    cases ran
    split
    · exact .completeStart _ _ _ _
    · exact h
  | coldStart memoryFitted cellMillivolts inputs =>
    unfold execColdStart at ran
    cases ran
    split
    · dsimp only
      split
      · exact .of_none rfl
      · exact .completeStart _ _ _ _
    · exact h
  | imageLoad acknowledged inputs =>
    unfold execImageLoad at ran
    cases ran
    split
    · exact .loadImage _ _ _
    · exact h

/-! ## The terms that an acceptance gives -/

section
variable {s : State}

theorem State.lookupCode_activity (s : State) (n : Nat) : s.activity.lookupCode n = s.lookupCode n := by
  unfold State.lookupCode State.lane
  rw [State.activity_lanes]

theorem State.lane_activity (s : State) (l : LaneNo) : s.activity.lane l = s.lane l := by
  rw [State.lane, State.activity_lanes, State.lane]

theorem State.buildChain_congr {s t : State} (same : ∀ l, t.lane l = s.lane l) (n : Nat) (taken : List LaneNo)
    (l : LaneNo) : t.buildChain n taken l = s.buildChain n taken l := by
  induction n generalizing taken l with
  | zero => rfl
  | succ n ih => simp only [State.buildChain, same, ih]

theorem State.chainOf_activity (s : State) (l : LaneNo) : s.activity.chainOf l = s.chainOf l :=
  State.buildChain_congr s.lane_activity _ _ _

/-- A new operation is on the terms of its context, whatever its request for a grant brings. -/
theorem State.onTerms_beginOperation (c : VendContext) (demand : Nat) (s : State) :
    (s.beginOperation c demand).OnTerms c.terms := .request .evaluate (.setVend rfl)

theorem State.acceptVend_onTerms (idle : s.vend.context = none) (code : Nat) (chosen : LaneNo) (price : Nat)
    (chain : List LaneNo) (selected : LaneNo) (demand bounces : Nat) :
    (s.acceptVend code chosen price chain selected demand bounces).state.OnTerms ⟨chosen, price, chain⟩ := by
  unfold State.acceptVend
  split
  · exact .of_none idle
  split
  · exact .of_none idle
  · exact State.onTerms_beginOperation _ _ _

/-- The terms that a VEND of a code gives (R118): the lane that the code selects, its price and its chain. -/
def State.SelectedTerms (s : State) (code : Nat) (a : Terms) : Prop :=
  (s.lookupCode code).lane = some a.chosen ∧ (∃ f, s.lane a.chosen = some f ∧ a.price = f.price) ∧
    a.chain = s.chainOf a.chosen

theorem State.selectLane_terms {code : Nat} {d : VendContext} (idle : s.vend.context = none)
    (accepted : (s.selectLane code).state.vend.context = some d) : s.SelectedTerms code d.terms := by
  have notRefused : s.vend.context ≠ some d := by simp [idle]
  unfold State.selectLane at accepted
  dsimp only at accepted
  split at accepted
  · exact absurd accepted notRefused
  next chosen isChosen =>
  split at accepted
  · exact absurd accepted notRefused
  next f fitted =>
  split at accepted
  · exact absurd accepted notRefused
  split at accepted
  · exact absurd accepted notRefused
  · have onTerms := State.acceptVend_onTerms idle _ _ _ _ _ _ _ d accepted
    rw [onTerms]
    exact ⟨isChosen, ⟨f, fitted, rfl⟩, rfl⟩

theorem State.vendAnswer_terms {code : Half} {d : VendContext} (idle : s.vend.context = none)
    (accepted : (s.vendAnswer code).state.vend.context = some d) : s.SelectedTerms code.toNat d.terms := by
  have notRefused : s.vend.context ≠ some d := by simp [idle]
  unfold State.vendAnswer at accepted
  split at accepted
  · exact absurd accepted notRefused
  split at accepted
  · exact absurd accepted notRefused
  split at accepted
  · exact absurd accepted notRefused
  split at accepted
  · exact absurd accepted notRefused
  · exact State.selectLane_terms idle accepted

theorem State.exec_vend_terms {code : Half} {t : State} {d : VendContext} (ran : exec (.vend code) s = .next t)
    (idle : s.vend.context = none) (accepted : t.vend.context = some d) : s.SelectedTerms code.toNat d.terms := by
  cases ran
  split at accepted
  · have chosen := State.vendAnswer_terms (s := s.activity) (by rw [State.activity_vend, idle]) accepted
    rwa [State.SelectedTerms, State.lookupCode_activity, State.lane_activity, State.chainOf_activity] at chosen
  · exact absurd accepted (by simp [idle])

end

/-! ## The chain of a lane (R118) -/

section
variable {s : State} {l : LaneNo} {f : FittedLane} {taken : List LaneNo}

theorem State.buildChain_of_mem (isTaken : l ∈ taken) (n : Nat) : s.buildChain n taken l = taken := by
  cases n with
  | zero => rfl
  | succ n => simp [State.buildChain, isTaken]

theorem State.buildChain_of_no_alternate (isF : s.lane l = some f) (ends : f.alternate = none) (new : l ∉ taken)
    (n : Nat) : s.buildChain (n + 1) taken l = taken ++ [l] := by
  simp [State.buildChain, new, isF, ends]

theorem State.buildChain_of_alternate {b : LaneNo} (isF : s.lane l = some f) (link : f.alternate = some b)
    (new : l ∉ taken) (n : Nat) : s.buildChain (n + 1) taken l = s.buildChain n (taken ++ [l]) b := by
  simp [State.buildChain, new, isF, link]

/-- The last lane that a chain has room for is in it whatever its own alternate. -/
theorem State.buildChain_last (new : l ∉ taken) : s.buildChain 1 taken l = taken ++ [l] := by
  simp only [State.buildChain, List.contains_eq_mem, new, decide_false, Bool.false_eq_true, if_false]
  split
  · rfl
  split <;> rfl

/-- Where no alternate names an UNFITTED lane (R18), a chain holds fitted lanes. -/
theorem State.fitted_of_mem_buildChain (links : ∀ k g, s.lane k = some g → ∀ b, g.alternate = some b → s.lane b ≠ none)
    (fitted : s.lane l ≠ none) (takenFitted : ∀ k ∈ taken, s.lane k ≠ none) (n : Nat) :
    ∀ k ∈ s.buildChain n taken l, s.lane k ≠ none := by
  induction n generalizing taken l with
  | zero => exact takenFitted
  | succ n ih =>
    by_cases isTaken : l ∈ taken
    · rwa [State.buildChain_of_mem isTaken]
    · obtain ⟨f, isF⟩ := Option.ne_none_iff_exists'.mp fitted
      have extended : ∀ k ∈ taken ++ [l], s.lane k ≠ none := by
        intro k isIn
        rcases List.mem_append.mp isIn with old | new
        · exact takenFitted k old
        · rwa [List.mem_singleton.mp new]
      cases link : f.alternate with
      | none => rwa [State.buildChain_of_no_alternate isF link isTaken]
      | some b =>
        rw [State.buildChain_of_alternate isF link isTaken]
        exact ih (links l f isF b link) extended

theorem State.chainOf_one (isF : s.lane l = some f) (ends : f.alternate = none ∨ f.alternate = some l) :
    s.chainOf l = [l] := by
  rcases ends with link | link
  · exact State.buildChain_of_no_alternate isF link List.not_mem_nil 2
  · rw [State.chainOf, State.buildChain_of_alternate isF link List.not_mem_nil, State.buildChain_of_mem (by simp)]
    rfl

variable {b : LaneNo} {g : FittedLane} (isF : s.lane l = some f) (link : f.alternate = some b) (other : b ≠ l)
  (isG : s.lane b = some g)
include isF link other isG

theorem State.chainOf_two (ends : g.alternate = none ∨ g.alternate = some l ∨ g.alternate = some b) :
    s.chainOf l = [l, b] := by
  rw [State.chainOf, State.buildChain_of_alternate isF link List.not_mem_nil]
  have new : b ∉ ([] ++ [l] : List LaneNo) := by simpa using other
  rcases ends with link' | link' | link'
  · exact State.buildChain_of_no_alternate isG link' new 1
  · rw [State.buildChain_of_alternate isG link' new, State.buildChain_of_mem (by simp)]
    rfl
  · rw [State.buildChain_of_alternate isG link' new, State.buildChain_of_mem (by simp)]
    rfl

theorem State.chainOf_three {c : LaneNo} (link' : g.alternate = some c) (notFirst : c ≠ l) (notSecond : c ≠ b) :
    s.chainOf l = [l, b, c] := by
  rw [State.chainOf, State.buildChain_of_alternate isF link List.not_mem_nil,
    State.buildChain_of_alternate isG link' (by simpa using other)]
  have new : c ∉ ([] ++ [l] ++ [b] : List LaneNo) := by simp [notFirst, notSecond]
  exact State.buildChain_last new

end

/-- Settles O22, by the terms that every command keeps, the terms that an accepted VEND gives, and the lengths of a
chain. -/
theorem chainFollowsAtMostTwoLinks : Obligations.ChainFollowsAtMostTwoLinks := by
  refine ⟨?fixed, ?accepted, ?chain⟩
  case fixed =>
    intro i s t c d ran inFlight still
    have onTerms := exec_keeps_terms i (by simp [inFlight]) (.of_context inFlight) ran
    exact VendContext.terms_eq_iff.mp (onTerms d still)
  case accepted =>
    intro s code t d ran idle accepted
    obtain ⟨selects, ⟨f, isF, price⟩, chain⟩ := State.exec_vend_terms ran idle accepted
    refine ⟨selects, chain, fun g isG => ?_⟩
    rwa [← Option.some.inj (isF.symm.trans isG)]
  case chain =>
    intro s l f isF links
    refine ⟨State.chainOf_one isF, fun b g link other isG => ⟨State.chainOf_two isF link other isG, ?_⟩, ?_⟩
    · exact fun c => State.chainOf_three isF link other isG
    · exact State.fitted_of_mem_buildChain links (by simp [isF]) (by simp) 3

end Sys2Proof.Machine
end

section
/-! PROOFS. How a frame is judged (10_the_command_port_and_attention.md, R177): each parameter group is read from
exactly its own number of bytes and gives those bytes back, and so each request of the table; then the three frames that
no request handles. -/
namespace Sys2Proof.Machine

/-! ## Words and their bytes -/

theorem hiByte_half (a b : Byte) : hiByte (half a b) = a := BitVec.extractLsb'_append_eq_left

theorem loByte_half (a b : Byte) : loByte (half a b) = b := BitVec.extractLsb'_append_eq_right

theorem bytes_word3 (a b c : Byte) :
    [(word3 a b c).extractLsb' 16 8, (word3 a b c).extractLsb' 8 8, (word3 a b c).extractLsb' 0 8] = [a, b, c] := by
  have high : (word3 a b c).extractLsb' 16 8 = a :=
    (BitVec.extractLsb'_append_eq_of_le (by decide)).trans BitVec.extractLsb'_append_eq_left
  have middle : (word3 a b c).extractLsb' 8 8 = b :=
    (BitVec.extractLsb'_append_eq_of_le (by decide)).trans BitVec.extractLsb'_append_eq_right
  have low : (word3 a b c).extractLsb' 0 8 = c := BitVec.extractLsb'_append_eq_right
  rw [high, middle, low]

/-! ## Parameters read from exactly their own bytes -/

/-- A reader takes lists of exactly `n` bytes, and what it reads from one stands in the relation `gives` to it. -/
structure ReadsExactly {α : Type} (n : Nat) (read : List Byte → Option α) (gives : α → List Byte → Prop) : Prop where
  refuses : ∀ ps, ps.length ≠ n → read ps = none
  reads : ∀ ps, ps.length = n → ∃ a, read ps = some a ∧ gives a ps

theorem LaneParams.readsExactly : ReadsExactly 11 LaneParams.ofBytes fun p ps => p.bytes = ps where
  refuses ps wrong := by
    unfold LaneParams.ofBytes
    split
    · exact absurd rfl wrong
    · rfl
  reads
    | [p1, p0, mode, cap, cls, kind, r1, r0, dem, d1, d0], _ =>
      ⟨_, rfl, by simp only [LaneParams.bytes, hiByte_half, loByte_half]⟩

theorem WindowParams.readsExactly : ReadsExactly 6 WindowParams.ofBytes fun p ps => p.bytes = ps where
  refuses ps wrong := by
    unfold WindowParams.ofBytes
    split
    · exact absurd rfl wrong
    · rfl
  reads
    | [f1, f0, l1, l0, base, en], _ =>
      ⟨_, rfl, by simp only [WindowParams.bytes, hiByte_half, loByte_half]⟩

theorem CoinParams.readsExactly : ReadsExactly 5 CoinParams.ofBytes fun p ps => p.bytes = ps where
  refuses ps wrong := by
    unfold CoinParams.ofBytes
    split
    · exact absurd rfl wrong
    · rfl
  reads
    | [v1, v0, d, i, c], _ =>
      ⟨_, rfl, by simp only [CoinParams.bytes, hiByte_half, loByte_half]⟩

theorem TubeParams.readsExactly : ReadsExactly 5 TubeParams.ofBytes fun p ps => p.bytes = ps where
  refuses ps wrong := by
    unfold TubeParams.ofBytes
    split
    · exact absurd rfl wrong
    · rfl
  reads
    | [v1, v0, c, l, r], _ =>
      ⟨_, rfl, by simp only [TubeParams.bytes, hiByte_half, loByte_half]⟩

theorem ProbeParams.readsExactly : ReadsExactly 8 ProbeParams.ofBytes fun p ps => p.bytes = ps where
  refuses ps wrong := by
    unfold ProbeParams.ofBytes
    split
    · exact absurd rfl wrong
    · rfl
  reads
    | [a1, a0, b1, b0, c1, c0, d1, d0], _ =>
      ⟨_, rfl, by simp only [ProbeParams.bytes, hiByte_half, loByte_half]⟩

theorem CoolingParams.readsExactly : ReadsExactly 18 CoolingParams.ofBytes fun p ps => p.bytes = ps where
  refuses ps wrong := by
    unfold CoolingParams.ofBytes
    split
    · exact absurd rfl wrong
    · rfl
  reads
    | [s1, s0, diff, setb, hl, hd, o1, o0, r1, r0, si, di, te, md, dr, fr, fo, en], _ =>
      ⟨_, rfl, by simp only [CoolingParams.bytes, hiByte_half, loByte_half]⟩

theorem BudgetParams.readsExactly : ReadsExactly 7 BudgetParams.ofBytes fun p ps => p.bytes = ps where
  refuses ps wrong := by
    unfold BudgetParams.ofBytes
    split
    · exact absurd rfl wrong
    · rfl
  reads
    | [b, pd, sd, rd, dd, f, m], _ => ⟨_, rfl, rfl⟩

theorem WakeParams.readsExactly : ReadsExactly 3 WakeParams.ofBytes fun p ps => p.bytes = ps where
  refuses ps wrong := by
    unfold WakeParams.ofBytes
    split
    · exact absurd rfl wrong
    · rfl
  reads
    | [c, d, k], _ => ⟨_, rfl, rfl⟩

theorem MachineParams.readsExactly : ReadsExactly 19 MachineParams.ofBytes fun p ps => p.bytes = ps where
  refuses ps wrong := by
    unfold MachineParams.ofBytes
    split
    · exact absurd rfl wrong
    · rfl
  reads
    | [s1, s0, c1, c0, d1, d0, ret, sense, b1, b0, t1, t0, p1, p0, mode, k1, k0, timeout, code], _ =>
      ⟨_, rfl, by simp only [MachineParams.bytes, hiByte_half, loByte_half]⟩

/-! ## Requests read from exactly their own bytes -/

/-- The reader of a request with this code: the request it reads is encoded by the code and the very bytes read. -/
def SpellsRequest (n : Nat) (code : Byte) (read : List Byte → Option Instr) : Prop :=
  ReadsExactly n read fun i ps => encodeFrame i = some (code :: ps)

namespace SpellsRequest

variable {code : Byte} {n : Nat}

theorem decode0 {i : Instr} (encoded : encodeFrame i = some [code]) : SpellsRequest 0 code (decode0 i) where
  refuses ps wrong := by
    unfold Sys2Proof.decode0
    split
    · exact absurd rfl wrong
    · rfl
  reads
    | [], _ => ⟨_, rfl, encoded⟩

theorem decode1 {f : Byte → Instr} (encoded : ∀ a, encodeFrame (f a) = some [code, a]) :
    SpellsRequest 1 code (decode1 f) where
  refuses ps wrong := by
    unfold Sys2Proof.decode1
    split
    · exact absurd rfl wrong
    · rfl
  reads
    | [a], _ => ⟨_, rfl, encoded a⟩

theorem decode2 {f : Byte → Byte → Instr} (encoded : ∀ a b, encodeFrame (f a b) = some [code, a, b]) :
    SpellsRequest 2 code (decode2 f) where
  refuses ps wrong := by
    unfold Sys2Proof.decode2
    split
    · exact absurd rfl wrong
    · rfl
  reads
    | [a, b], _ => ⟨_, rfl, encoded a b⟩

theorem decodeHalf {f : Half → Instr} (encoded : ∀ h, encodeFrame (f h) = some (code :: halfBytes h)) :
    SpellsRequest 2 code (decodeHalf f) where
  refuses ps wrong := by
    unfold Sys2Proof.decodeHalf
    split
    · exact absurd rfl wrong
    · rfl
  reads
    | [a, b], _ => ⟨_, rfl, by rw [encoded, halfBytes, hiByte_half, loByte_half]⟩

theorem decodeWord3 {f : FlagWord → Instr}
    (encoded : ∀ w, encodeFrame (f w) =
      some (code :: [w.extractLsb' 16 8, w.extractLsb' 8 8, w.extractLsb' 0 8])) :
    SpellsRequest 3 code (decodeWord3 f) where
  refuses ps wrong := by
    unfold Sys2Proof.decodeWord3
    split
    · exact absurd rfl wrong
    · rfl
  reads
    | [a, b, c], _ => ⟨_, rfl, by rw [encoded, bytes_word3]⟩

/-- A request of one parameter group. -/
theorem map {α : Type} {g : List Byte → Option α} {bytes : α → List Byte} {f : α → Instr}
    (group : ReadsExactly n g fun p ps => bytes p = ps) (encoded : ∀ p, encodeFrame (f p) = some (code :: bytes p)) :
    SpellsRequest n code fun ps => (g ps).map f where
  refuses ps wrong := by rw [group.refuses ps wrong, Option.map_none]
  reads ps right := by
    obtain ⟨p, isP, rfl⟩ := group.reads ps right
    exact ⟨f p, by rw [isP, Option.map_some], encoded p⟩

/-- A request of an index byte and a parameter group. -/
theorem indexed {α : Type} {g : List Byte → Option α} {bytes : α → List Byte} {f : Byte → α → Instr}
    (group : ReadsExactly n g fun p ps => bytes p = ps)
    (encoded : ∀ b p, encodeFrame (f b p) = some (code :: b :: bytes p)) :
    SpellsRequest (n + 1) code (decodeIndexed f g) where
  refuses
    | [], _ => rfl
    | b :: ps, wrong => by rw [decodeIndexed, group.refuses ps (by simpa using wrong), Option.map_none]
  reads
    | b :: ps, right => by
      obtain ⟨p, isP, rfl⟩ := group.reads ps (by simpa using right)
      exact ⟨f b p, by rw [decodeIndexed, isP, Option.map_some], encoded b p⟩

theorem of_code {k : Nat} {read : List Byte → Option Instr} (isCode : code.toNat = k)
    (spells : SpellsRequest n (BitVec.ofNat 8 k) read) : SpellsRequest n code read := by
  rwa [← isCode, BitVec.ofNat_toNat, BitVec.setWidth_eq] at spells

end SpellsRequest

/-- Every row of the request table of file 10, in its order. -/
theorem spellsRequest_decodeRequest {code : Byte} {n : Nat} (row : requestLength code.toNat = some n) :
    SpellsRequest n code (decodeRequest code.toNat) := by
  generalize isCode : code.toNat = k at row ⊢
  refine .of_code isCode ?_
  unfold requestLength at row
  split at row <;> cases row
  · exact .decode0 rfl
  · exact .decodeWord3 fun _ => rfl
  · exact .decodeWord3 fun _ => rfl
  · exact .decodeHalf fun _ => rfl
  · exact .decode1 fun _ => rfl
  · exact .indexed LaneParams.readsExactly fun _ _ => rfl
  · exact .decode2 fun _ _ => rfl
  · exact .decode2 fun _ _ => rfl
  · exact .decode1 fun _ => rfl
  · exact .decode1 fun _ => rfl
  · exact .indexed WindowParams.readsExactly fun _ _ => rfl
  · exact .decode1 fun _ => rfl
  · exact .decodeHalf fun _ => rfl
  · exact .decode1 fun _ => rfl
  · exact .decode1 fun _ => rfl
  · exact .decode0 rfl
  · exact .decodeHalf fun _ => rfl
  · exact .decode0 rfl
  · exact .decode0 rfl
  · exact .decode1 fun _ => rfl
  · exact .indexed CoinParams.readsExactly fun _ _ => rfl
  · exact .indexed TubeParams.readsExactly fun _ _ => rfl
  · exact .decode2 fun _ _ => rfl
  · exact .decode1 fun _ => rfl
  · exact .map ProbeParams.readsExactly fun _ => rfl
  · exact .decode0 rfl
  · exact .decode2 fun _ _ => rfl
  · exact .decode0 rfl
  · exact .decode0 rfl
  · exact .map CoolingParams.readsExactly fun _ => rfl
  · exact .decode0 rfl
  · exact .decode0 rfl
  · exact .decode0 rfl
  · exact .map BudgetParams.readsExactly fun _ => rfl
  · exact .decode0 rfl
  · exact .decode0 rfl
  · exact .decode0 rfl
  · exact .map WakeParams.readsExactly fun _ => rfl
  · exact .decode1 fun _ => rfl
  · exact .map MachineParams.readsExactly fun _ => rfl
  · exact .decode0 rfl

/-! ## The cases of R177 in their order -/

section
variable {bytes ps : List Byte} {part n : Nat} {code : Byte}

theorem decodeFrame_of_no_whole_bytes (h : bytes = [] ∨ part ≠ 0) : decodeFrame bytes part = .frameError bytes part := by
  cases bytes with
  | nil => rfl
  | cons code ps => exact if_pos (h.resolve_left (List.cons_ne_nil code ps))

theorem decodeFrame_nop : decodeFrame (0x00#8 :: ps) 0 = .nop ps.length := rfl

theorem decodeFrame_of_unknown (notNop : code ≠ 0x00#8) (unknown : requestLength code.toNat = none) :
    decodeFrame (code :: ps) 0 = .unknownRequest code ps.length := by
  simp [decodeFrame, notNop, unknown]

theorem decodeFrame_of_wrong_length (notNop : code ≠ 0x00#8) (row : requestLength code.toNat = some n)
    (wrong : ps.length ≠ n) : decodeFrame (code :: ps) 0 = .frameError (code :: ps) 0 := by
  simp [decodeFrame, notNop, row, (spellsRequest_decodeRequest row).refuses ps wrong]

theorem encodeFrame_decodeFrame (notNop : code ≠ 0x00#8) (row : requestLength code.toNat = some n)
    (right : ps.length = n) : encodeFrame (decodeFrame (code :: ps) 0) = some (code :: ps) := by
  obtain ⟨i, isI, encoded⟩ := (spellsRequest_decodeRequest row).reads ps right
  simpa [decodeFrame, notNop, row, isI] using encoded

end

/-! ## The frames that no request handles -/

section
variable {s : State} (h : s.TakesFrames)
include h

theorem exec_nop_taken (extra : Nat) : exec (.nop extra) s = .next (s.answered s (1 + extra) 0x00#8 .ok []) :=
  exec_ok (f := fun s => Answer.ok [] s) rfl h rfl

theorem exec_unknownRequest_taken (code : Byte) (extra : Nat) :
    exec (.unknownRequest code extra) s = .next (s.answered s (1 + extra) code .unknownRequest []) :=
  exec_refused (f := fun s => Answer.refuse .unknownRequest s) rfl h rfl

/-- The refusal of a frame in error is the one that writes a flag, LINK. -/
theorem exec_frameError_taken (bytes : List Byte) (part : Nat) :
    exec (.frameError bytes part) s =
      .next ((s.setFlag .link).answered s bytes.length (bytes.headD 0x00#8) .frameError []) := by
  have arm : exec (.frameError bytes part) s =
      s.frame bytes.length (answeredCode bytes) fun s => Answer.refuse .frameError (s.setFlag .link) := rfl
  have code : answeredCode bytes = bytes.headD 0x00#8 := by cases bytes <;> rfl
  rw [arm, State.frame, State.portOpen_of_takesFrames h, if_pos rfl, code]
  rfl

end

/-- Settles O6, by the cases of R177 and the request table. -/
theorem framesAreJudgedInOrder : Obligations.FramesAreJudgedInOrder := by
  refine ⟨fun bytes part => ⟨decodeFrame_of_no_whole_bytes, ?whole⟩, fun s takes =>
    ⟨exec_nop_taken takes, exec_frameError_taken takes, exec_unknownRequest_taken takes⟩⟩
  case whole =>
    rintro code ps rfl rfl
    refine ⟨decodeFrame_of_unknown, ?nop, fun n notNop row =>
      ⟨decodeFrame_of_wrong_length notNop row, encodeFrame_decodeFrame notNop row⟩⟩
    case nop =>
      rintro rfl
      exact decodeFrame_nop

end Sys2Proof.Machine
end

section
/-! PROOFS. What READ_ATTENTION answers (10_the_command_port_and_attention.md, R184): the scan of the flag word for its
lowest set bit, and the reply. -/
namespace Sys2Proof.Machine

/-! ## The first set flag -/

theorem firstSetBelow_eq_none_iff (w : BitVec 17) (n : Nat) :
    firstSetBelow w n = none ↔ ∀ k, k < n → w.getLsbD k = false := by
  induction n with
  | zero => simp [firstSetBelow]
  | succ n ih =>
    simp only [Nat.forall_lt_succ_right, ← ih, firstSetBelow]
    cases firstSetBelow w n <;> simp

theorem firstSetBelow_eq_some {w : BitVec 17} {n b : Nat} (h : firstSetBelow w n = some b) :
    b < n ∧ w.getLsbD b = true ∧ ∀ k, k < b → w.getLsbD k = false := by
  induction n with
  | zero => simp [firstSetBelow] at h
  | succ n ih =>
    cases below : firstSetBelow w n with
    | some c =>
      simp only [firstSetBelow, below] at h
      obtain ⟨lt, isSet, lower⟩ := ih (below.trans h)
      exact ⟨Nat.lt_succ_of_lt lt, isSet, lower⟩
    | none =>
      simp only [firstSetBelow, below, Option.ite_none_right_eq_some, Option.some.injEq] at h
      obtain ⟨isSet, rfl⟩ := h
      exact ⟨Nat.lt_succ_self n, isSet, (firstSetBelow_eq_none_iff w n).mp below⟩

/-- What the byte of the first set flag says of a port (R184). -/
def Port.FirstFlagIs (p : Port) (first : Byte) : Prop :=
  (p.flags = 0#17 ∧ first = 0xFF#8) ∨
    ∃ b : Nat, b < 17 ∧ first = BitVec.ofNat 8 b ∧ p.flags.getLsbD b = true ∧ ∀ k, k < b → p.flags.getLsbD k = false

theorem field_one_of_lt {n : Nat} (h : n < 256) : field 1 n = [BitVec.ofNat 8 n] := by
  simp [field, bytesOf, h]

theorem Port.exists_firstFlagIs (p : Port) : ∃ first, fieldOr 1 p.firstSet = [first] ∧ p.FirstFlagIs first := by
  cases scan : p.firstSet with
  | none =>
    have clear := (firstSetBelow_eq_none_iff p.flags 17).mp scan
    exact ⟨0xFF#8, rfl, .inl ⟨BitVec.eq_of_getLsbD_eq fun k lt => by simp [clear k lt], rfl⟩⟩
  | some b =>
    obtain ⟨lt, isSet, lower⟩ := firstSetBelow_eq_some scan
    exact ⟨BitVec.ofNat 8 b, field_one_of_lt (by omega), .inr ⟨b, lt, rfl, isSet, lower⟩⟩

/-! ## The reply -/

/-- The payload of READ_ATTENTION (R184). -/
def State.attentionFields (s : State) : List Byte :=
  flagField s.port.flags ++ flagField s.port.mask ++ fieldOr 1 s.port.firstSet ++ field 1 s.lanes.faultedCount

theorem exec_readAttention_taken {s : State} (h : s.TakesFrames) :
    exec .readAttention s = .next (s.answered s 1 0x01#8 .ok s.attentionFields) :=
  exec_ok (f := fun s => Answer.ok s.attentionFields s) rfl h rfl

/-- A part that has answered a frame takes the next one. -/
theorem State.takesFrames_answered {s : State} (h : s.TakesFrames) (n : Nat) (code : Byte) (status : Status)
    (payload : List Byte) : (s.answered s n code status payload).TakesFrames := by
  obtain ⟨running, -⟩ := h
  exact ⟨running, by simp [State.answered]⟩

/-- Settles O9, by the scan of the flag word; the reply reads nothing that it writes, so it stands at a second one. -/
theorem readAttentionAnswersTheFirstSetFlag : Obligations.ReadAttentionAnswersTheFirstSetFlag := by
  intro s takes
  obtain ⟨first, isFirst, lowest⟩ := s.port.exists_firstFlagIs
  have again := exec_readAttention_taken (State.takesFrames_answered takes 1 0x01#8 .ok s.attentionFields)
  exact ⟨first, _, exec_readAttention_taken takes, by rw [State.attentionFields, isFirst], lowest, _, again, rfl⟩

end Sys2Proof.Machine
end

section
/-! PROOFS. What clears an attention flag (10_the_command_port_and_attention.md, R182): the bit of each flag in the
word, and the operations that leave a flag that is set as it is. -/
namespace Sys2Proof.Machine

/-! ## The bit of a flag -/

theorem Flag.bit_injective : Function.Injective Flag.bit := by
  have leftInverse : ∀ f : Flag, Flag.ofNat f.bit.val = f := by
    intro f
    cases f <;> rfl
  intro f g same
  rw [← leftInverse f, same, leftInverse g]

theorem Flag.getLsb_word (f g : Flag) : f.word.getLsb g.bit = decide (f = g) := by
  have bits : f.bit.val = g.bit.val ↔ f = g := Fin.val_inj.trans Flag.bit_injective.eq_iff
  have bitOfWord : f.word.getLsb g.bit = (decide (g.bit.val < 17) && decide (f.bit.val = g.bit.val)) := by
    rw [← Nat.testBit_two_pow]
    exact BitVec.getLsbD_ofNat 17 (2 ^ f.bit.val) g.bit.val
  rw [bitOfWord, decide_eq_true g.bit.isLt, Bool.true_and, decide_eq_decide]
  exact bits

theorem State.isSet_setFlag (f g : Flag) (s : State) :
    (s.setFlag f).port.isSet g = (s.port.isSet g || decide (f = g)) := by
  rw [← Flag.getLsb_word]
  simp [Port.isSet, BitVec.getLsb_eq_getElem]

theorem Port.isSet_of_flags_and {p : Port} {w : FlagWord} (f : Flag) :
    ({ p with flags := p.flags &&& ~~~flagBits w } : Port).isSet f = (p.isSet f && !w.getLsbD f.bit.val) := by
  simp [Port.isSet, flagBits, BitVec.getLsb_eq_getElem]

/-! ## A flag that is set -/

/-- The flag is set. A predicate of its own, so that each operation has one short lemma: it leaves a set flag set. -/
def State.HasFlag (s : State) (f : Flag) : Prop := s.port.isSet f = true

namespace State.HasFlag

variable {s t : State} {f : Flag}

theorem of_port (same : t.port = s.port) (h : s.HasFlag f) : t.HasFlag f := by
  unfold State.HasFlag
  rwa [same]

/-- What an evaluation, or an act within one, leaves: flags only become set. -/
theorem of_kept (k : s.Kept t) (h : s.HasFlag f) : t.HasFlag f := by
  unfold State.HasFlag Port.isSet at *
  rw [← k.flags]
  simp_all [BitVec.getLsb_eq_getElem]

theorem setFlag (g : Flag) (h : s.HasFlag f) : (s.setFlag g).HasFlag f := .of_kept (s.kept_setFlag g) h

theorem setFlagIf (b : Bool) (g : Flag) (h : s.HasFlag f) : (s.setFlagIf b g).HasFlag f :=
  .of_kept (s.kept_setFlagIf b g) h

theorem evaluateExact (h : s.HasFlag f) : s.evaluateExact.HasFlag f := .of_kept s.kept_evaluateExact h

theorem evaluate (h : s.HasFlag f) : s.evaluate.HasFlag f := .of_kept s.kept_evaluate h

/-- A frame that is taken leaves what its request left, with the reply pending; one that is lost leaves everything. -/
theorem frame {n : Nat} {code : Byte} {answer : State → Answer} (ran : s.frame n code answer = .next t)
    (h : s.HasFlag f) (taken : (answer s).state.HasFlag f) : t.HasFlag f := by
  cases ran
  split
  · exact taken
  · exact h

theorem event {effect : State → State} (ran : s.event effect = .next t) (h : s.HasFlag f)
    (taken : (effect s).HasFlag f) : t.HasFlag f := by
  cases ran
  split
  · exact taken
  · exact h

/-! ### The Cooling Controller -/

theorem setCall (call : Bool) (h : s.HasFlag f) : (s.setCall State.evaluate call).HasFlag f := by
  unfold State.setCall
  split
  · exact h
  · exact .of_kept (State.kept_updateCompressor State.kept_evaluate _) h

theorem evaluateThermostat (h : s.HasFlag f) : (s.evaluateThermostat State.evaluate).HasFlag f := by
  unfold State.evaluateThermostat
  split
  · exact .setCall _ h
  · exact h

theorem evaluateHold (h : s.HasFlag f) : s.evaluateHold.HasFlag f := .of_port s.evaluateHold_port h

theorem latchHold (h : s.HasFlag f) : s.latchHold.HasFlag f := .setFlag .hold h

theorem latchIfReached (h : s.HasFlag f) : s.latchIfReached.HasFlag f := by
  unfold State.latchIfReached
  split
  · exact .latchHold h
  · exact h

theorem checkDefrostInterval (h : s.HasFlag f) : (s.checkDefrostInterval State.evaluate).HasFlag f :=
  .of_kept (State.kept_checkDefrostInterval State.kept_evaluate s) h

theorem heatingEnds (h : s.HasFlag f) : (s.heatingEnds State.evaluate).HasFlag f :=
  .of_kept (State.kept_heatingEnds State.kept_evaluate s) h

theorem updateCompressor (h : s.HasFlag f) : (s.updateCompressor State.evaluate).HasFlag f :=
  .of_kept (State.kept_updateCompressor State.kept_evaluate s) h

theorem beginFallback (h : s.HasFlag f) : (s.beginFallback State.evaluate).HasFlag f := .setCall true h

theorem sampleCabinet (r : LastSample) (h : s.HasFlag f) : (s.sampleCabinet State.evaluate r).HasFlag f := by
  unfold State.sampleCabinet
  dsimp only
  split
  · split
    · exact .evaluateHold (.beginFallback (.setFlagIf _ _ h))
    · exact .evaluateHold (.evaluateThermostat (.setFlagIf _ _ h))
  · split
    · exact .evaluateHold (.evaluateThermostat (.setFlagIf _ _ h))
    · exact .setFlagIf _ _ h

theorem sampleCoil (r : LastSample) (h : s.HasFlag f) : (s.sampleCoil State.evaluate r).HasFlag f := by
  unfold State.sampleCoil
  dsimp only
  split
  · exact .heatingEnds (.setFlagIf _ _ h)
  · exact .setFlagIf _ _ h

theorem endLongHeating (h : s.HasFlag f) : s.endLongHeating.HasFlag f := by
  unfold State.endLongHeating
  split
  · exact .heatingEnds h
  · exact h

theorem applyCooling (c : CoolingSettings) (h : s.HasFlag f) : (s.applyCooling c).HasFlag f := by
  have thermostat : ((s.withCoolingSettings c).evaluateThermostat State.evaluate).HasFlag f := .evaluateThermostat h
  exact .updateCompressor (.endLongHeating (.checkDefrostInterval (.latchIfReached (.evaluateHold thermostat))))

theorem releaseHoldAnswer (h : s.HasFlag f) : s.releaseHoldAnswer.state.HasFlag f := by
  unfold State.releaseHoldAnswer
  split
  · exact h
  · split <;> exact h

theorem startDefrostAnswer (h : s.HasFlag f) : s.startDefrostAnswer.state.HasFlag f := by
  unfold State.startDefrostAnswer
  split
  · exact .of_kept (State.kept_defrostDue State.kept_evaluate s) h
  · exact h

theorem fallbackEnds (h : s.HasFlag f) : s.fallbackEnds.HasFlag f := by
  unfold State.fallbackEnds
  split
  · exact h
  · exact .setCall false h
  · exact .beginFallback h

theorem startIntervalEnds (h : s.HasFlag f) : s.startIntervalEnds.HasFlag f := by
  unfold State.startIntervalEnds
  split
  · exact .of_kept (State.kept_reduceCompressor State.kept_evaluate _) h
  · exact h

theorem minimumOffEnds (h : s.HasFlag f) : s.minimumOffEnds.HasFlag f := by
  unfold State.minimumOffEnds
  split
  · exact .updateCompressor h
  · exact h

theorem countRun (h : s.HasFlag f) : s.countRun.HasFlag f := by
  unfold State.countRun
  split
  · exact .checkDefrostInterval h
  · exact h

theorem maximumDefrost (h : s.HasFlag f) : s.maximumDefrost.HasFlag f := by
  unfold State.maximumDefrost
  split
  · exact .heatingEnds h
  · exact h

theorem holdDelayReached (h : s.HasFlag f) : s.holdDelayReached.HasFlag f := by
  unfold State.holdDelayReached
  split
  · exact .latchHold h
  · exact h

/-! ### QUIET and the supply -/

theorem switchOff (cause : StopCause) (h : s.HasFlag f) : (s.switchOff State.evaluate cause).HasFlag f :=
  .of_kept (State.kept_switchOff State.kept_evaluate cause s) h

theorem leaveQuiet (h : s.HasFlag f) : s.leaveQuiet.HasFlag f := by
  unfold State.leaveQuiet
  split
  · exact .evaluateThermostat h
  · exact h

theorem wakeEvent (enabled : Bool) (h : s.HasFlag f) : (s.wakeEvent enabled).HasFlag f := by
  unfold State.wakeEvent
  split
  · exact .leaveQuiet (.setFlag .wake h)
  · exact h

theorem enterQuietAnswer (h : s.HasFlag f) : s.enterQuietAnswer.state.HasFlag f := by
  unfold State.enterQuietAnswer
  split
  · exact h
  split
  · exact .evaluateThermostat h
  · exact h

theorem sampleCell (millivolts : Nat) (h : s.HasFlag f) : (s.sampleCell millivolts).HasFlag f := .setFlagIf _ .cell h

theorem sampleAtWarning (millivolts : Nat) (h : s.HasFlag f) : (s.sampleAtWarning millivolts).HasFlag f := by
  unfold State.sampleAtWarning
  dsimp only
  split <;> exact .sampleCell millivolts h

theorem assertSupply (kind : SupplyKind) (h : s.HasFlag f) : (s.assertSupply kind).HasFlag f := by
  cases kind <;> exact .setFlag .supply h

theorem supplyHits (h : s.HasFlag f) : s.supplyHits.HasFlag f := by
  have off : (s.switchOff State.evaluate .abort).HasFlag f := .switchOff .abort h
  have aborted : ((s.switchOff State.evaluate .abort).revokeAll.abortVend State.evaluate).HasFlag f :=
    .of_kept (State.kept_abortVend State.kept_evaluate _) (.of_port (State.revokeAll_port _) off)
  refine .of_kept (State.kept_yieldDefrost State.kept_evaluate _)
    (.of_kept (State.kept_revokeCompressor State.kept_evaluate _) ?_)
  split
  · exact .of_kept (State.kept_endOrder State.kept_evaluate _ _) aborted
  · exact aborted

theorem clearSupply (kind : SupplyKind) (h : s.HasFlag f) : (s.clearSupply kind).HasFlag f :=
  .of_port (s.clearSupply_port kind) h

/-! ### The money side -/

theorem addCashless (granted : Nat) (h : s.HasFlag f) : (s.addCashless granted).HasFlag f := by
  refine .of_port (State.activity_port _) ?_
  dsimp only
  split <;> exact h

theorem grantAnswer (amount : Nat) (h : s.HasFlag f) : (s.grantAnswer amount).state.HasFlag f := by
  unfold State.grantAnswer
  split
  · exact h
  · exact .addCashless _ h

theorem cancelled (h : s.HasFlag f) : s.cancelled.HasFlag f := by
  unfold State.cancelled
  split
  · exact .of_port (State.timerReplacing_port _ _) (.of_kept (State.kept_actCancel State.kept_evaluate _ s) h)
  · exact h
  · exact h
  · exact h

theorem setTubeAnswer (tube : Byte) (p : TubeParams) (h : s.HasFlag f) : (s.setTubeAnswer tube p).state.HasFlag f := by
  unfold State.setTubeAnswer
  split
  · exact h
  split
  · exact h
  · exact .evaluateExact h

theorem setTubeCountAnswer (tube count : Byte) (h : s.HasFlag f) :
    (s.setTubeCountAnswer tube count).state.HasFlag f := by
  unfold State.setTubeCountAnswer
  split
  · exact h
  dsimp only
  split
  · exact h
  split
  · exact h
  · exact .evaluateExact h

theorem clearTubeFaultAnswer (tube : Byte) (h : s.HasFlag f) : (s.clearTubeFaultAnswer tube).state.HasFlag f := by
  unfold State.clearTubeFaultAnswer
  split
  · exact h
  dsimp only
  split
  · exact h
  split
  · exact .evaluateExact h
  · exact h

theorem dispenseAnswer (tube coins : Byte) (h : s.HasFlag f) : (s.dispenseAnswer tube coins).state.HasFlag f := by
  unfold State.dispenseAnswer
  split
  · exact h
  split
  · exact h
  split
  · exact h
  split
  · exact h
  split
  · exact h
  · exact .of_kept (State.kept_createDispenseOrder State.kept_evaluate _ _ s) h

theorem presentCoin (type : Option CoinTypeNo) (h : s.HasFlag f) : (s.presentCoin type).HasFlag f := by
  unfold State.presentCoin
  split
  · exact h
  split
  · exact h
  dsimp only
  split <;> exact h

theorem depositCoin (r : Route) (value : Nat) (h : s.HasFlag f) : (s.depositCoin r value).HasFlag f := by
  unfold State.depositCoin
  split
  · exact h
  split
  · exact h
  · exact .evaluateExact h

theorem confirmCoin (h : s.HasFlag f) : s.confirmCoin.HasFlag f := by
  unfold State.confirmCoin
  split
  · exact h
  · exact .setFlag .coin (.depositCoin _ _ (.of_port (State.creditCoin_port _ s) h))

theorem clampTube (n : TubeNo) (sensor : TubeSensor) (h : s.HasFlag f) : (s.clampTube n sensor).HasFlag f := by
  unfold State.clampTube
  dsimp only
  split
  · exact h
  split
  · exact .of_kept (State.kept_takeTrim State.kept_evaluate _) (.evaluateExact h)
  · exact .evaluateExact h

theorem takeCassette (new : CassetteState) (h : s.HasFlag f) : (s.takeCassette new).HasFlag f := by
  unfold State.takeCassette
  dsimp only
  split
  · exact h
  split
  · exact .evaluateExact (.setFlag .cassette h)
  split
  · exact .of_kept (State.kept_endOrder State.kept_evaluate _ _) (.evaluateExact (.setFlag .cassette h))
  · exact .setFlag .cassette h

theorem payoutWaitExpires (h : s.HasFlag f) : s.payoutWaitExpires.HasFlag f := by
  unfold State.payoutWaitExpires
  split
  · exact h
  split
  · exact .of_kept (State.kept_endOrder State.kept_evaluate _ s) h
  · exact h

theorem sessionTimeout (h : s.HasFlag f) : s.sessionTimeout.HasFlag f := by
  have settled : (State.settle { s with session := { s.session with timer := none } }).HasFlag f :=
    .of_kept (State.kept_settle _) h
  unfold State.sessionTimeout
  dsimp only
  split
  · split <;> exact settled
  · split <;> exact h

theorem storeImageAnswer (h : s.HasFlag f) : s.storeImageAnswer.state.HasFlag f := by
  unfold State.storeImageAnswer
  split
  · exact h
  split <;> exact h

/-! ### The lanes -/

theorem onFittedLane {lane : Byte} {answer : LaneNo → FittedLane → Answer} (h : s.HasFlag f)
    (taken : ∀ l r, (answer l r).state.HasFlag f) : (s.onFittedLane lane answer).state.HasFlag f := by
  unfold State.onFittedLane
  split
  · exact h
  split
  · exact h
  split
  · exact h
  · exact taken _ _

theorem setLaneAnswer (lane : Byte) (p : LaneParams) (h : s.HasFlag f) : (s.setLaneAnswer lane p).state.HasFlag f := by
  unfold State.setLaneAnswer
  split
  · exact h
  split
  · exact h
  split <;> exact h

theorem setLinkAnswer (lane alternate : Byte) (h : s.HasFlag f) :
    (s.setLinkAnswer lane alternate).state.HasFlag f := by
  unfold State.setLinkAnswer
  split
  · exact h
  · refine .onFittedLane h fun l r => ?_
    split <;> exact h

/-! ### The vend and the drive -/

theorem beginOperation (c : VendContext) (demand : Nat) (h : s.HasFlag f) : (s.beginOperation c demand).HasFlag f :=
  .of_kept (State.kept_request State.kept_evaluate _ _ _) h

theorem acceptVend {code price demand bounces : Nat} {chosen selected : LaneNo} {chain : List LaneNo}
    (h : s.HasFlag f) : (s.acceptVend code chosen price chain selected demand bounces).state.HasFlag f := by
  unfold State.acceptVend
  split
  · exact h
  split
  · exact h
  · exact .beginOperation _ _ h

theorem selectLane (code : Nat) (h : s.HasFlag f) : (s.selectLane code).state.HasFlag f := by
  unfold State.selectLane
  dsimp only
  split
  · exact h
  split
  · exact h
  split
  · exact h
  split
  · exact h
  · exact .acceptVend h

theorem vendAnswer (code : Half) (h : s.HasFlag f) : (s.vendAnswer code).state.HasFlag f := by
  unfold State.vendAnswer
  split
  · exact h
  split
  · exact h
  split
  · exact h
  split
  · exact h
  · exact .selectLane _ h

theorem serviceLane {lane : Byte} {answer : LaneNo → FittedLane → Answer} (h : s.HasFlag f)
    (taken : ∀ l r, (answer l r).state.HasFlag f) : (s.serviceLane lane answer).state.HasFlag f := by
  unfold State.serviceLane
  split
  · exact h
  split
  · exact h
  split
  · exact h
  split
  · exact h
  split
  · exact h
  · exact taken _ _

theorem testVendAnswer (lane : Byte) (h : s.HasFlag f) : (s.testVendAnswer lane).state.HasFlag f := by
  refine .serviceLane h fun l r => ?_
  split
  · exact h
  · exact .beginOperation _ _ h

theorem homeLaneAnswer (lane : Byte) (h : s.HasFlag f) : (s.homeLaneAnswer lane).state.HasFlag f := by
  refine .serviceLane h fun l r => ?_
  split
  · exact h
  split
  · exact h
  · exact .beginOperation _ _ h

theorem takeStartLevel (level : HomeLevel) (h : s.HasFlag f) : (s.takeStartLevel level).HasFlag f := by
  unfold State.takeStartLevel
  split
  · exact h
  split
  · exact h
  · exact .of_kept (State.kept_takeHomeLevel State.kept_evaluate _ s) h

theorem changeHomeLevel (level : HomeLevel) (h : s.HasFlag f) : (s.changeHomeLevel level).HasFlag f := by
  unfold State.changeHomeLevel
  split
  · exact h
  split
  · exact h
  · exact .of_kept (State.kept_takeHomeLevel State.kept_evaluate _ s) h

theorem stallEnds (h : s.HasFlag f) : s.stallEnds.HasFlag f := by
  unfold State.stallEnds
  split
  · exact h
  split
  · exact .switchOff .stall h
  · exact h

theorem openChecked (milliamps : Nat) (h : s.HasFlag f) : (s.openChecked milliamps).HasFlag f := by
  unfold State.openChecked
  split
  · exact h
  split
  · exact h
  split
  · exact .switchOff .openCircuit h
  · exact h

theorem vendWaitExpires (h : s.HasFlag f) : s.vendWaitExpires.HasFlag f := by
  unfold State.vendWaitExpires
  split
  · exact h
  split
  · exact .of_kept (State.kept_endVend State.kept_evaluate _ _ s) h
  · exact h

theorem tStartExpires (h : s.HasFlag f) : s.tStartExpires.HasFlag f := by
  unfold State.tStartExpires
  split
  · exact h
  split
  · exact .switchOff .commanded h
  · exact h

theorem tCycleExpires (h : s.HasFlag f) : s.tCycleExpires.HasFlag f := by
  unfold State.tCycleExpires
  split
  · exact h
  split
  · exact .switchOff .commanded h
  · exact h

theorem runTimeExpires (h : s.HasFlag f) : s.runTimeExpires.HasFlag f := by
  unfold State.runTimeExpires
  split
  · exact h
  split
  · exact .switchOff .commanded h
  · exact h

end State.HasFlag

end Sys2Proof.Machine
end

section
/-! PROOFS. A flag stays set until an ACK_ATTENTION that names it or a start (10_the_command_port_and_attention.md,
R182): the commands, case by case, by the operations that they are made of. -/
namespace Sys2Proof.Machine

/-- The commands that may clear a flag (R182): an ACK_ATTENTION that names it, and the starts. -/
def MayClear (f : Flag) : Instr → Prop
  | .ackAttention w => w.getLsbD f.bit.val = true
  | .warmStart _ _ _ => True
  | .coldStart _ _ _ => True
  | .imageLoad _ _ => True
  | _ => False

theorem mayClear_iff {f : Flag} {c : Instr} :
    MayClear f c ↔ (∃ w, c = .ackAttention w ∧ w.getLsbD f.bit.val = true) ∨ (∃ a b i, c = .warmStart a b i) ∨
      (∃ a b i, c = .coldStart a b i) ∨ ∃ a i, c = .imageLoad a i := by
  cases c <;> simp [MayClear]

theorem State.acknowledge_isSet (w : FlagWord) (f : Flag) (s : State) :
    (s.acknowledge (flagBits w)).port.isSet f = (s.port.isSet f && !w.getLsbD f.bit.val) := Port.isSet_of_flags_and f

theorem exec_ackAttention_taken {s : State} (w : FlagWord) (h : s.TakesFrames) :
    exec (.ackAttention w) s =
      .next ((s.acknowledge (flagBits w)).answered s 4 0x02#8 .ok
        (flagField (s.acknowledge (flagBits w)).port.flags ++ (s.acknowledge (flagBits w)).attnField)) :=
  exec_ok (f := fun s =>
    Answer.ok (flagField (s.acknowledge (flagBits w)).port.flags ++ (s.acknowledge (flagBits w)).attnField)
      (s.acknowledge (flagBits w))) rfl h rfl

/-- Every other command leaves a flag that is set as it is. -/
theorem exec_keeps_flag {f : Flag} {s t : State} (c : Instr) (notCleared : ¬MayClear f c) (h : s.HasFlag f)
    (ran : exec c s = .next t) : t.HasFlag f := by
  cases c with dsimp only [exec, execNop, execFrameError, execUnknownRequest, execLinkReset, execReadAttention,
    execAckAttention, execSetAttentionMask, execLookup, execReadLane, execSetLane, execSetLink, execRestock,
    execRetireLane, execClearLaneFault, execSetWindow, execReadWindow, execVend, execTestVend, execHomeLane,
    execReadVendResult, execGrantCashless, execCancel, execReadSession, execSetAccept, execSetCoinType, execSetTube,
    execSetTubeCount, execClearTubeFault, execSetProbes, execReadTubes, execDispense, execReadPayoutResult,
    execClearCashbox, execSetCooling, execReadCooling, execReleaseHold, execStartDefrost, execSetBudget,
    execReadBudget, execEnterQuiet, execWake, execSetWakeSources, execReadSupply, execSetMachine, execStoreImage,
    execStoreEnd, execCoinPresented, execAcceptSensorPulse, execTransitLimitExpiry, execLevelSensorTransition,
    execCassetteContactChange, execPayoutBudgetWaitExpiry, execPayoutSensorPulse, execPayoutCoinLimitExpiry,
    execSessionTimeoutExpiry, execStartLevelTaken, execHomeLevelChange, execDriveCurrentChange,
    execStallDebounceExpiry, execOpenCheck, execVendBudgetWaitExpiry, execTStartExpiry, execTCycleExpiry,
    execRunTimeExpiry, execDropSeen, execDropWindowClose, execThermistorSample, execFallbackPhaseEnd,
    execStartIntervalEnd, execMinimumRunExpiry, execMinimumOffEnd, execAccumulatedRunCount, execMaximumDefrostReached,
    execDripEnd, execHoldDelayReached, execSupplyEvent, execSupplyCleared, execDoorChange, execCellSample,
    execPowerFailWarning, execRstNAssertion, execLrstNRelease] at ran
  | nop _ | unknownRequest _ _ | readAttention | setAttentionMask _ | readVendResult | readSession | readTubes
  | readPayoutResult | clearCashbox | readCooling | readBudget => exact .frame ran h h
  | frameError _ _ => exact .frame ran h (.setFlag .link h)
  | linkReset | lrstNRelease | rstNAssertion =>
    cases ran
    exact h
  | ackAttention w =>
    refine .frame ran h ?_
    have kept : w.getLsbD f.bit.val = false := by simpa [MayClear] using notCleared
    exact (s.acknowledge_isSet w f).trans (by rw [h, kept]; rfl)
  | lookup code => exact .frame ran h (by rwa [State.lookupAnswer_state])
  | readLane _ | readWindow _ | setWindow _ _ | setAccept _ | setCoinType _ _ | setWakeSources _ | readSupply _
  | setMachine _ =>
    refine .frame ran h ?_
    split <;> exact h
  | setLane lane p => exact .frame ran h (.setLaneAnswer lane p h)
  | setLink lane alternate => exact .frame ran h (.setLinkAnswer lane alternate h)
  | restock _ _ | retireLane _ => exact .frame ran h (.onFittedLane h fun _ _ => h)
  | clearLaneFault _ => exact .frame ran h (.onFittedLane h fun l r => .of_port (s.clearFault_port l r) h)
  | vend code => exact .frame ran h (.vendAnswer code (.of_port s.activity_port h))
  | testVend lane => exact .frame ran h (.testVendAnswer lane h)
  | homeLane lane => exact .frame ran h (.homeLaneAnswer lane h)
  | grantCashless _ =>
    refine .frame ran h ?_
    split
    · exact h
    · exact .grantAnswer _ (.wakeEvent _ h)
  | cancel => exact .frame ran h (.cancelled h)
  | setTube tube p => exact .frame ran h (.setTubeAnswer tube p h)
  | setTubeCount tube count => exact .frame ran h (.setTubeCountAnswer tube count h)
  | clearTubeFault tube => exact .frame ran h (.clearTubeFaultAnswer tube h)
  | setProbes _ => exact .frame ran h (.evaluateExact h)
  | dispense tube coins => exact .frame ran h (.dispenseAnswer tube coins h)
  | setCooling _ =>
    refine .frame ran h ?_
    split
    · exact h
    · exact .applyCooling _ h
  | releaseHold => exact .frame ran h (.releaseHoldAnswer h)
  | startDefrost => exact .frame ran h (.startDefrostAnswer h)
  | setBudget _ =>
    refine .frame ran h ?_
    split
    · exact h
    · exact .evaluate h
  | enterQuiet => exact .frame ran h (.enterQuietAnswer h)
  | wake => exact .frame ran h (.leaveQuiet h)
  | storeImage => exact .frame ran h (.storeImageAnswer h)
  | storeEnd _ =>
    refine .event ran h ?_
    split
    · exact h
    · exact .setFlag .storeDone h
  | coinPresented type => exact .event ran h (.wakeEvent _ (.presentCoin type h))
  | acceptSensorPulse => exact .event ran h (.confirmCoin h)
  | transitLimitExpiry =>
    refine .event ran h ?_
    split
    · exact .setFlag .coinPath h
    · exact h
  | levelSensorTransition _ _ _ =>
    refine .event ran h ?_
    split
    · exact h
    · exact .clampTube _ _ h
  | cassetteContactChange _ _ _ =>
    refine .event ran h ?_
    split
    · exact h
    · exact .takeCassette _ h
  | payoutBudgetWaitExpiry => exact .event ran h (.payoutWaitExpires h)
  | payoutSensorPulse => exact .event ran h (.of_kept (State.kept_confirmPayout State.kept_evaluate s) h)
  | payoutCoinLimitExpiry => exact .event ran h (.of_kept (State.kept_payoutLimit State.kept_evaluate s) h)
  | sessionTimeoutExpiry =>
    refine .event ran h ?_
    split
    · exact .sessionTimeout h
    · exact h
  | startLevelTaken level => exact .event ran h (.takeStartLevel level h)
  | homeLevelChange level => exact .event ran h (.changeHomeLevel level h)
  | driveCurrentChange _ =>
    refine .event ran h ?_
    split <;> exact h
  | stallDebounceExpiry => exact .event ran h (.stallEnds h)
  | openCheck milliamps => exact .event ran h (.openChecked milliamps h)
  | vendBudgetWaitExpiry => exact .event ran h (.vendWaitExpires h)
  | tStartExpiry => exact .event ran h (.tStartExpires h)
  | tCycleExpiry => exact .event ran h (.tCycleExpires h)
  | runTimeExpiry => exact .event ran h (.runTimeExpires h)
  | dropSeen => exact .event ran h (.of_kept (State.kept_dropSensed State.kept_evaluate s) h)
  | dropWindowClose => exact .event ran h (.of_kept (State.kept_windowCloses State.kept_evaluate s) h)
  | thermistorSample channel _ =>
    refine .event ran h ?_
    cases channel with
    | cabinet => exact .sampleCabinet _ h
    | coil => exact .sampleCoil _ h
  | fallbackPhaseEnd => exact .event ran h (.fallbackEnds h)
  | startIntervalEnd => exact .event ran h (.startIntervalEnds h)
  | minimumRunExpiry => exact .event ran h (.of_kept (State.kept_minimumRunExpires State.kept_evaluate s) h)
  | minimumOffEnd => exact .event ran h (.minimumOffEnds h)
  | accumulatedRunCount => exact .event ran h (.countRun h)
  | maximumDefrostReached => exact .event ran h (.maximumDefrost h)
  | dripEnd =>
    refine .event ran h ?_
    split
    · exact .of_kept (State.kept_dripEnds State.kept_evaluate s) h
    · exact h
  | holdDelayReached => exact .event ran h (.holdDelayReached h)
  | supplyEvent kind _ =>
    refine .event ran h ?_
    split
    · exact .supplyHits (.assertSupply kind h)
    · exact h
  | supplyCleared kind _ =>
    refine .event ran h ?_
    split
    · split
      · exact .evaluate (.clearSupply kind h)
      · exact .clearSupply kind h
    · exact h
  | doorChange _ =>
    refine .event ran h ?_
    split
    · exact h
    · exact .wakeEvent _ h
  | cellSample millivolts => exact .event ran h (.sampleCell millivolts h)
  | powerFailWarning millivolts =>
    cases ran
    exact .sampleAtWarning millivolts h
  | warmStart _ _ _ | coldStart _ _ _ | imageLoad _ _ => exact absurd trivial notCleared

/-- Settles O11, by the bits of the flags and by the commands, each of which leaves a set flag set or may clear it. -/
theorem onlyAcknowledgementOrAStartClearsAFlag : Obligations.OnlyAcknowledgementOrAStartClearsAFlag := by
  refine ⟨fun f g s => ⟨rfl, ?sets, ?others⟩, ?acknowledged, ?stays⟩
  case sets => rw [State.isSet_setFlag, decide_eq_true rfl, Bool.or_true]
  case others =>
    intro other
    rw [State.isSet_setFlag, decide_eq_false other, Bool.or_false]
  case acknowledged =>
    intro s w takes
    refine ⟨_, exec_ackAttention_taken w takes, fun f named => ?_⟩
    exact (s.acknowledge_isSet w f).trans (by rw [named]; simp)
  case stays =>
    intro c s t f ran isSet isClear
    refine mayClear_iff.mp (Classical.byContradiction fun notCleared => ?_)
    exact absurd (exec_keeps_flag c notCleared isSet ran) (by simp [State.HasFlag, isClear])

end Sys2Proof.Machine
end
